-- ==== Sys2Proof/Word.lean ====
section
/-!
DEFINITION. The words of the block: a byte, the 16-bit pair, the ten-byte frame and the four bytes of it that vary.
-/

namespace Sys2Proof

/-- A byte: "all values unsigned 8-bit" (00_scope.md R9, R10). -/
abbrev Byte := BitVec 8

/-- The 16-bit checksum and the 16-bit data value (30_encoding.md R74, R75). -/
abbrev Word16 := BitVec 16

/-- The source's record of a frame, byte by byte in the order of the offsets 0 to 9 (30_encoding.md R70, R71; the names
are those of 10_state.md R23). Any ten bytes fit; `frameWellFormed` (Machine/Operands.lean) says which are a Frame. -/
structure Frame where
  start    : Byte
  version  : Byte
  length   : Byte
  command  : Byte
  feedback : Byte
  param1   : Byte
  param2   : Byte
  ckHigh   : Byte
  ckLow    : Byte
  endMark  : Byte
  deriving DecidableEq, Repr

/-- The four bytes of a frame that vary: what `LAST` latches and what FEED and TAKE return (10_state.md R32; a model
may represent a Frame by them, 30_encoding.md R71). -/
structure FrameFields where
  cmd : Byte
  fb  : Byte
  p1  : Byte
  p2  : Byte
  deriving DecidableEq, Repr

/-- The frame is "used in both directions" (30_encoding.md R70): inward it arrives from the far end, outward the block
puts it on the Byte Channel. -/
inductive Direction
  | inward
  | outward
  deriving DecidableEq, Repr

end Sys2Proof
end

