-- ==== Sys2Proof/Config.lean ====
section
/-!
DEFINITION. The parameters of an instance (00_scope.md R8) and the constants of the frame format.
-/

namespace Sys2Proof

/-- The delivery mode of received bytes (10_state.md R33, 00_scope.md R8). -/
inductive Mode
  | push   -- each received byte goes straight to FEED
  | drain  -- received bytes go through the ingestion buffer
  deriving DecidableEq, Repr

/-- The parameters of an instance that enter a rule: `N` and `MODE`, fixed for its life (00_scope.md R8, 10_state.md
R43; 93_implementation_defined.md U8). `IDLE_GAP` and `TICK` enter no rule (U9). -/
structure Config where
  capacity : Nat
  mode     : Mode
  deriving DecidableEq, Repr

/-- The constraint `N >= 2` of 00_scope.md R8. -/
abbrev Config.wf (c : Config) : Prop := 2 ≤ c.capacity

/-- The defaults of 00_scope.md R8: `N` = 10, `MODE` = DRAIN. -/
def Config.default : Config := { capacity := 10, mode := .drain }

/-- The start marker, offset 0 (00_scope.md R8). -/
abbrev SOF : Byte := 0x7E#8
/-- The version byte, offset 1 (00_scope.md R8). -/
abbrev VER : Byte := 0xFF#8
/-- The length byte, offset 2 (00_scope.md R8). -/
abbrev LEN : Byte := 0x06#8
/-- The end marker, offset 9 (00_scope.md R8). -/
abbrev EOF : Byte := 0xEF#8

end Sys2Proof
end

