-- ==== Sys2Proof/Machine/Operands.lean ====
section
/-!
DEFINITION. The multi-byte values, the checksum, the frame built from its fields, the command codes, and the cursor
arithmetic of the ingestion buffer: everything computed from operands without touching the state.
-/

namespace Sys2Proof.Machine

/-! ## Pairs of bytes -/

/-- A pair of bytes as one unsigned 16-bit number, the first byte the high one: the carried checksum (20_memory.md R52,
30_encoding.md R75) and the data value of a frame (20_memory.md R53, 30_encoding.md R74). -/
def bePair (hi lo : Byte) : Word16 := BitVec.ofNat 16 (hi.toNat * 256 + lo.toNat)

/-- `CKH = c div 256` (30_encoding.md R75). -/
def highByte (c : Word16) : Byte := BitVec.ofNat 8 (c.toNat / 256)

/-- `CKL = c mod 256` (30_encoding.md R75). -/
def lowByte (c : Word16) : Byte := BitVec.ofNat 8 (c.toNat % 256)

/-- The data value of a frame, `P1 * 256 + P2` (30_encoding.md R74). -/
def replyData (f : FrameFields) : Word16 := bePair f.p1 f.p2

/-! ## The checksum -/

/-- `(0 - (ver + len + cmd + fb + p1 + p2)) mod 65536`, the six bytes taken as unsigned numbers and summed without wrap
(30_encoding.md R76; six fields, 90_conflicts.md C1). The sum is at most 1530, so it is below 65536. -/
def csum (ver len cmd fb p1 p2 : Byte) : Word16 :=
  BitVec.ofNat 16
    (65536 - (ver.toNat + len.toNat + cmd.toNat + fb.toNat + p1.toNat + p2.toNat))

/-! ## Frames -/

/-- The ten bytes of a frame in the order of transmission (20_memory.md R51). -/
def frameBytes (f : Frame) : List Byte :=
  [f.start, f.version, f.length, f.command, f.feedback, f.param1, f.param2, f.ckHigh, f.ckLow, f.endMark]

/-- The ten bytes `7E FF 06 c f p q h l EF` of the 80-bit pattern of 30_encoding.md R73. -/
def framePattern (cmd fb p1 p2 ckH ckL : Byte) : Frame :=
  { start := SOF, version := VER, length := LEN, command := cmd, feedback := fb, param1 := p1, param2 := p2,
    ckHigh := ckH, ckLow := ckL, endMark := EOF }

/-- The frame with the given variable fields and the checksum they have (30_encoding.md R70, R71, R75, R76). -/
def frameOfFields (f : FrameFields) : Frame :=
  let c := csum VER LEN f.cmd f.fb f.p1 f.p2
  framePattern f.cmd f.fb f.p1 f.p2 (highByte c) (lowByte c)

/-- The frame `encode(command, param1, param2)` builds: feedback is 0x00 (30_encoding.md R80, 41_codec_tx.md R100). -/
def encodeFrame (cmd p1 p2 : Byte) : Frame := frameOfFields { cmd := cmd, fb := 0x00#8, p1 := p1, p2 := p2 }

/-- The carried checksum is the computed one: `chk_ok` of 30_encoding.md R78. -/
def checksumOk (ver len cmd fb p1 p2 ckH ckL : Byte) : Bool :=
  bePair ckH ckL == csum ver len cmd fb p1 p2

/-- "A byte string is a well-formed frame when it matches this pattern and its h, l bits satisfy rule R76"
(30_encoding.md R73). -/
def frameWellFormed (f : Frame) : Bool :=
  f.start == SOF && f.version == VER && f.length == LEN && f.endMark == EOF &&
    checksumOk f.version f.length f.command f.feedback f.param1 f.param2 f.ckHigh f.ckLow

/-! ## Command codes (30_encoding.md R81) -/

/-- R188. -/
def cmdInitSource : Byte := 0x3F#8
/-- R189. -/
def cmdSetVolume : Byte := 0x06#8
/-- R190. -/
def cmdPause : Byte := 0x0E#8
/-- R191. -/
def cmdResume : Byte := 0x0D#8
/-- R192. -/
def cmdPlayFolder : Byte := 0x0F#8
/-- R193. -/
def cmdLoopFolder : Byte := 0x17#8
/-- R194. -/
def cmdQueryFolderCount : Byte := 0x4E#8

/-! ## Cursor arithmetic -/

/-- `WP = (N - REM) mod N` (10_state.md R28, 43_ingest.md R162). -/
def writeCursor (n remaining : Nat) : Nat := (n - remaining) % n

/-- `H = N div 2` (00_scope.md R8). -/
def halfMark (n : Nat) : Nat := n / 2

/-- `REM` after one more byte: "if REM == 1: REM <- N else: REM <- REM - 1" (43_ingest.md R150). -/
def countDown (n remaining : Nat) : Nat := if remaining = 1 then n else remaining - 1

/-- The indices a drain reads, in order, with read cursor `rc` and snapshot `w`: one linear run, or the two runs
`rc .. N-1` and `0 .. w-1` when the cursor wrapped (43_ingest.md R154, R155). -/
def drainIndices (n rc w : Nat) : List Nat :=
  if w = rc then []
  else if rc < w then List.range' rc (w - rc)
  else List.range' rc (n - rc) ++ List.range' 0 w

end Sys2Proof.Machine
end

