-- ==== Sys2Proof/Syntax.lean ====
section
/-!
DEFINITION. The operations and words of spec/opcode_table.json, one constructor per row, in the table's order.
-/

namespace Sys2Proof

/-- One constructor per row of spec/opcode_table.json: the fourteen operations of 30_encoding.md R86, the generic frame
(R73) and the seven wire commands (R81). A command row carries the free bytes of its 80-bit pattern (feedback, param1,
param2, checksum high, checksum low). -/
inductive Instr
  | rst
  | enc (cmd p1 p2 : Byte)
  | tx (f : Frame)
  | feed (b : Byte)
  | take
  | clrs
  | rxb (b : Byte)
  | idle
  | drain
  | svc
  | send (cmd p1 p2 : Byte)
  | req (cmd p1 p2 : Byte) (timeout : Nat)
  | poll
  | tick
  | frame (dir : Direction) (cmd fb p1 p2 ckH ckL : Byte)
  | initSource (fb p1 p2 ckH ckL : Byte)
  | setVolume (fb p1 p2 ckH ckL : Byte)
  | pause (fb p1 p2 ckH ckL : Byte)
  | resume (fb p1 p2 ckH ckL : Byte)
  | playFolder (fb p1 p2 ckH ckL : Byte)
  | loopFolder (fb p1 p2 ckH ckL : Byte)
  | queryFolderCount (fb p1 p2 ckH ckL : Byte) (timeout : Nat)
  deriving DecidableEq, Repr

end Sys2Proof
end

