-- ==== Sys2Proof/Decode.lean ====
section
/-!
DEFINITION. The decoder, total on any bytes, and the encoder.

The words. An operation of the block is one byte whose low nibble is OP (30_encoding.md R86) and whose high nibble is 0,
followed by its operands: bytes in the order the rule lists them, TX's frame as its ten bytes in offset order, REQ's
timeout as `encodeTicks` writes it. A FRAME80 word is the ten bytes of 30_encoding.md R73, offset 0 first, followed by
one byte that says how the word is used (`0` as its row reads, `1` inward, `2` outward), and for QUERY_FOLDER_COUNT by
the timeout. The low nibble of the start marker `7E` is the unused OP `E`, so the two forms never meet. The spec gives no
carrier for OP or for the operands (30_encoding.md R86, 92_eei_decisions.md D20): DESIGN CHOICE, logs 1 and 5.
-/

namespace Sys2Proof

/-- Why bytes encode no operation. -/
inductive DecodeError
  /-- The bytes end inside an operation. -/
  | truncated
  /-- The byte is no operation number: OP `E` and `F` are unused (30_encoding.md R86), and the high nibble is 0. -/
  | reservedOp (b : Byte)
  /-- A word opened by `7E` that does not match the pattern of 30_encoding.md R73. -/
  | notAFrame
  /-- A frame's use byte above 2. -/
  | reservedUse (b : Byte)
  deriving DecidableEq, Repr

/-- What the decoder answers: an instruction and the bytes after it. -/
abbrev Decoded := Except DecodeError (Instr × List Byte)

/-- Read one operand byte. -/
def operandByte (bs : List Byte) (k : Byte → List Byte → Decoded) : Decoded :=
  match bs with
  | [] => .error .truncated
  | b :: rest => k b rest

/-- Read a timeout: base-128 digits, the least significant first, bit 7 set on every digit but the last. A timeout is a
natural number without a stated width (10_state.md R34, 92_eei_decisions.md D26), so no width is fixed here. -/
def decodeTicks : List Byte → Except DecodeError (Nat × List Byte)
  | [] => .error .truncated
  | b :: rest =>
    if b.toNat < 128 then .ok (b.toNat, rest)
    else
      match decodeTicks rest with
      | .ok (n, rest') => .ok (b.toNat - 128 + 128 * n, rest')
      | .error e => .error e

/-- Read a timeout operand. -/
def operandTicks (bs : List Byte) (k : Nat → List Byte → Decoded) : Decoded :=
  match decodeTicks bs with
  | .ok (n, rest) => k n rest
  | .error e => .error e

/-- Read TX's operand, ten bytes in offset order (41_codec_tx.md R101). -/
def operandFrame (bs : List Byte) (k : Frame → List Byte → Decoded) : Decoded :=
  operandByte bs fun b0 bs => operandByte bs fun b1 bs => operandByte bs fun b2 bs => operandByte bs fun b3 bs =>
  operandByte bs fun b4 bs => operandByte bs fun b5 bs => operandByte bs fun b6 bs => operandByte bs fun b7 bs =>
  operandByte bs fun b8 bs => operandByte bs fun b9 bs =>
    k { start := b0, version := b1, length := b2, command := b3, feedback := b4, param1 := b5, param2 := b6,
        ckHigh := b7, ckLow := b8, endMark := b9 } bs

/-- The row of spec/opcode_table.json that a FRAME80 word with command byte `cmd` reads as: the command's own row for
the seven listed codes (30_encoding.md R81), the generic row for every other. -/
def decodeRow (cmd fb p1 p2 ckH ckL : Byte) (bs : List Byte) : Decoded :=
  if cmd = Machine.cmdInitSource then .ok (.initSource fb p1 p2 ckH ckL, bs)
  else if cmd = Machine.cmdSetVolume then .ok (.setVolume fb p1 p2 ckH ckL, bs)
  else if cmd = Machine.cmdPause then .ok (.pause fb p1 p2 ckH ckL, bs)
  else if cmd = Machine.cmdResume then .ok (.resume fb p1 p2 ckH ckL, bs)
  else if cmd = Machine.cmdPlayFolder then .ok (.playFolder fb p1 p2 ckH ckL, bs)
  else if cmd = Machine.cmdLoopFolder then .ok (.loopFolder fb p1 p2 ckH ckL, bs)
  else if cmd = Machine.cmdQueryFolderCount then
    operandTicks bs fun timeout bs => .ok (.queryFolderCount fb p1 p2 ckH ckL timeout, bs)
  else .ok (.frame .inward cmd fb p1 p2 ckH ckL, bs)

/-- Read a FRAME80 word: the pattern of 30_encoding.md R73, then the use byte. -/
def decodeFrame (bs : List Byte) : Decoded :=
  operandFrame bs fun f bs =>
    if f.start = SOF ∧ f.version = VER ∧ f.length = LEN ∧ f.endMark = EOF then
      operandByte bs fun use bs =>
        if use = 0x00#8 then decodeRow f.command f.feedback f.param1 f.param2 f.ckHigh f.ckLow bs
        else if use = 0x01#8 then
          .ok (.frame .inward f.command f.feedback f.param1 f.param2 f.ckHigh f.ckLow, bs)
        else if use = 0x02#8 then
          .ok (.frame .outward f.command f.feedback f.param1 f.param2 f.ckHigh f.ckLow, bs)
        else .error (.reservedUse use)
    else .error .notAFrame

/-- Read an operation by its number (30_encoding.md R86). -/
def decodeOp (op : Byte) (bs : List Byte) : Decoded :=
  match op.toNat with
  | 0x0 => .ok (.rst, bs)
  | 0x1 => operandByte bs fun cmd bs => operandByte bs fun p1 bs => operandByte bs fun p2 bs => .ok (.enc cmd p1 p2, bs)
  | 0x2 => operandFrame bs fun f bs => .ok (.tx f, bs)
  | 0x3 => operandByte bs fun b bs => .ok (.feed b, bs)
  | 0x4 => .ok (.take, bs)
  | 0x5 => .ok (.clrs, bs)
  | 0x6 => operandByte bs fun b bs => .ok (.rxb b, bs)
  | 0x7 => .ok (.idle, bs)
  | 0x8 => .ok (.drain, bs)
  | 0x9 => .ok (.svc, bs)
  | 0xA => operandByte bs fun cmd bs => operandByte bs fun p1 bs => operandByte bs fun p2 bs => .ok (.send cmd p1 p2, bs)
  | 0xB =>
    operandByte bs fun cmd bs => operandByte bs fun p1 bs => operandByte bs fun p2 bs =>
      operandTicks bs fun timeout bs => .ok (.req cmd p1 p2 timeout, bs)
  | 0xC => .ok (.poll, bs)
  | 0xD => .ok (.tick, bs)
  | _ => .error (.reservedOp op)

/-- The instruction at the head of a list of bytes, with the bytes after it. -/
def decode (bs : List Byte) : Decoded :=
  match bs with
  | [] => .error .truncated
  | b :: rest => if b = SOF then decodeFrame (b :: rest) else decodeOp b rest

/-! ## The encoder -/

/-- The digits of a timeout, with fuel for the number of them. -/
def encodeTicksFuel : Nat → Nat → List Byte
  | 0, n => [BitVec.ofNat 8 n]
  | fuel + 1, n =>
    if n < 128 then [BitVec.ofNat 8 n]
    else BitVec.ofNat 8 (128 + n % 128) :: encodeTicksFuel fuel (n / 128)

/-- A timeout as base-128 digits, the least significant first. -/
def encodeTicks (n : Nat) : List Byte := encodeTicksFuel n n

/-- The ten bytes of a FRAME80 word (30_encoding.md R73). -/
def encodePattern (cmd fb p1 p2 ckH ckL : Byte) : List Byte :=
  [SOF, VER, LEN, cmd, fb, p1, p2, ckH, ckL, EOF]

/-- Is the code one of the seven that have a row of their own (30_encoding.md R81)? -/
def isNamedCommand (cmd : Byte) : Bool :=
  cmd == Machine.cmdInitSource || cmd == Machine.cmdSetVolume || cmd == Machine.cmdPause || cmd == Machine.cmdResume ||
    cmd == Machine.cmdPlayFolder || cmd == Machine.cmdLoopFolder || cmd == Machine.cmdQueryFolderCount

/-- The bytes of an instruction. -/
def encode : Instr → List Byte
  | .rst => [0x00#8]
  | .enc cmd p1 p2 => [0x01#8, cmd, p1, p2]
  | .tx f => 0x02#8 :: Machine.frameBytes f
  | .feed b => [0x03#8, b]
  | .take => [0x04#8]
  | .clrs => [0x05#8]
  | .rxb b => [0x06#8, b]
  | .idle => [0x07#8]
  | .drain => [0x08#8]
  | .svc => [0x09#8]
  | .send cmd p1 p2 => [0x0A#8, cmd, p1, p2]
  | .req cmd p1 p2 timeout => [0x0B#8, cmd, p1, p2] ++ encodeTicks timeout
  | .poll => [0x0C#8]
  | .tick => [0x0D#8]
  | .frame .inward cmd fb p1 p2 ckH ckL =>
    encodePattern cmd fb p1 p2 ckH ckL ++ [if isNamedCommand cmd then 0x01#8 else 0x00#8]
  | .frame .outward cmd fb p1 p2 ckH ckL => encodePattern cmd fb p1 p2 ckH ckL ++ [0x02#8]
  | .initSource fb p1 p2 ckH ckL => encodePattern Machine.cmdInitSource fb p1 p2 ckH ckL ++ [0x00#8]
  | .setVolume fb p1 p2 ckH ckL => encodePattern Machine.cmdSetVolume fb p1 p2 ckH ckL ++ [0x00#8]
  | .pause fb p1 p2 ckH ckL => encodePattern Machine.cmdPause fb p1 p2 ckH ckL ++ [0x00#8]
  | .resume fb p1 p2 ckH ckL => encodePattern Machine.cmdResume fb p1 p2 ckH ckL ++ [0x00#8]
  | .playFolder fb p1 p2 ckH ckL => encodePattern Machine.cmdPlayFolder fb p1 p2 ckH ckL ++ [0x00#8]
  | .loopFolder fb p1 p2 ckH ckL => encodePattern Machine.cmdLoopFolder fb p1 p2 ckH ckL ++ [0x00#8]
  | .queryFolderCount fb p1 p2 ckH ckL timeout =>
    encodePattern Machine.cmdQueryFolderCount fb p1 p2 ckH ckL ++ [0x00#8] ++ encodeTicks timeout

/-! ## Words numbered as spec/opcode_table.json numbers them -/

/-- The bytes of a table row's word as they lie in the schedule. A FRAME80 row is one 80-bit word whose bits 79:72 are
the byte at offset 0 (30_encoding.md R70), so its most significant byte comes first; an operation row is one byte. -/
def wordBytes (nbits w : Nat) : List Byte :=
  let n := (nbits + 7) / 8
  let bytes := (List.range n).map fun k => BitVec.ofNat 8 (w / 256 ^ k)
  if nbits = 80 then bytes.reverse else bytes

/-- The operand bytes above the table's bits are zeros: ten is the longest an operation with zero operands has. -/
def wordWithOperands (nbits w : Nat) : List Byte := wordBytes nbits w ++ List.replicate 10 0x00#8

/-- The instruction the decoder reads from a table row's word, its operand bytes zeros. -/
def decodeTableWord (nbits w : Nat) : Option Instr :=
  match decode (wordWithOperands nbits w) with
  | .ok (i, _) => some i
  | .error _ => none

/-- The bytes of the instruction that a table row's word is, its operand bytes zeros, and no byte after it: what is
stored in the schedule. Where the decoder refuses the word, all of its bytes. -/
def instructionBytes (nbits w : Nat) : List Byte :=
  match decode (wordWithOperands nbits w) with
  | .ok (_, rest) => (wordWithOperands nbits w).take ((wordWithOperands nbits w).length - rest.length)
  | .error _ => wordWithOperands nbits w

end Sys2Proof
end

