-- ==== Sys2Proof/Machine/State.lean ====
section
/-!
DEFINITION. The state of one instance (10_state.md R20): plain data, with the machine right after reset.
-/

namespace Sys2Proof.Machine

/-- `BUF` as a list of (index, byte) pairs in canonical form: indices strictly rising, no entry equal to what an
unlisted index reads as (`bufFill`, Machine/Ops.lean). -/
abbrev Memory := List Host.Cell

/-- The reply buffer `RB[0..9]`, ten 8-bit registers under the names of 10_state.md R23. -/
structure ReplyBuffer where
  START   : Byte
  VERSION : Byte
  LENGTH  : Byte
  CMD     : Byte
  FB      : Byte
  P1      : Byte
  P2      : Byte
  CKH     : Byte
  CKL     : Byte
  END     : Byte
  deriving DecidableEq, Repr

/-- The three pending flags `PEND` (10_state.md R29). -/
structure Pending where
  half : Bool
  full : Bool
  idle : Bool
  deriving DecidableEq, Repr

/-- The three values of `RES` (10_state.md R30); `resCode` (Machine/Flags.lean) gives their 2-bit encoding. -/
inductive ResCode
  | incomplete
  | complete
  | invalid
  deriving DecidableEq, Repr

/-- What FEED returns: `feed(byte) -> {Incomplete, Complete(Frame), Invalid}` (42_codec_feed.md R120). -/
inductive FeedResult
  | incomplete
  | complete (f : FrameFields)
  | invalid
  deriving DecidableEq, Repr

/-- The two states of the Coordinator (10_state.md R34). -/
inductive CoState
  | idle
  | awaitingReply
  deriving DecidableEq, Repr

/-- What an operation returns by `emit result` (30_encoding.md R86, result column). -/
inductive OpResult
  | encoded (f : Frame)              -- ENC
  | fed (r : FeedResult)             -- FEED, also inside DRAIN, SVC and RXB
  | taken (f : Option FrameFields)   -- TAKE
  | sent                             -- SEND
  | issued                           -- REQ
  | busy                             -- SEND, REQ while a request is outstanding
  | reply (p1 p2 : Byte)             -- POLL
  | timedOut                         -- POLL
  | waiting                          -- POLL
  | notWaiting                       -- POLL
  deriving DecidableEq, Repr

/-- What leaves the block: `emit tx(b)` and `emit result(r)` (00_scope.md R10). -/
inductive Emission
  | tx (b : Byte)
  | result (r : OpResult)
  deriving DecidableEq, Repr

/-- An atomic step of another agent that may fall between two sub-steps of a DRAIN or SVC (20_memory.md R60,
41_codec_tx.md R102, 60_exceptions.md R223). DRAIN, SVC, FEED and RST are not among them: a drain is never re-entered,
FEED runs only inside one, and RST is not performed during one (43_ingest.md R159, 70_reset_and_hazards.md R240). -/
inductive Intruder
  | rxb (b : Byte)
  | idle
  | enc (cmd p1 p2 : Byte)
  | tx (f : Frame)
  | take
  | clrs
  | send (cmd p1 p2 : Byte)
  | req (cmd p1 p2 : Byte) (timeout : Nat)
  | poll
  | tick
  deriving DecidableEq, Repr

/-- The state of one instance. The fields down to `rt` are the spec's (10_state.md R20 to R36); `trace`, `schedule` and
`between` are the model's own: the outputs and the inputs of the spec's step relation (00_scope.md R10, 10_state.md R43;
logs 1, 2, 4). -/
structure State where
  /-- `N` and `MODE` (00_scope.md R8, R33): no operation writes them. -/
  cfg      : Config
  /-- `BUF` (R21). -/
  buf      : Memory
  /-- `RB` (R22). -/
  rb       : ReplyBuffer
  /-- `OFS`, a ten-valued element (R24, 42_codec_feed.md R137). -/
  ofs      : Fin 10
  /-- `RC` (R26). -/
  rc       : Nat
  /-- `REM` (R27). -/
  rem      : Nat
  /-- `PEND` (R29). -/
  pend     : Pending
  /-- `RES` (R30). -/
  res      : ResCode
  /-- `CAUSE` (R30). -/
  cause    : BitVec 5
  /-- `STATUS` (R31). -/
  status   : BitVec 7
  /-- `LAST` (R32). -/
  last     : FrameFields
  /-- `RDY` (R32). -/
  rdy      : Bool
  /-- `CO` (R34). -/
  co       : CoState
  /-- `EXPECT` (R34). -/
  expect   : Byte
  /-- `CNT`, a natural number (R34, 92_eei_decisions.md D26). -/
  cnt      : Nat
  /-- Ghost `WT` (R36). -/
  wt       : Nat
  /-- Ghost `RT` (R36). -/
  rt       : Nat
  /-- What has left the block so far, oldest first. -/
  trace    : List Emission
  /-- The operations still to come, encoded (Sys2Proof/Decode.lean). -/
  schedule : List Byte
  /-- The steps that fall at the next interleaving points of drains, one list per point. -/
  between  : List (List Intruder)
  deriving DecidableEq, Repr

/-- Why the machine stops with a fault. The block itself never faults (60_exceptions.md R216, 42_codec_feed.md R120). -/
inductive Fault
  /-- Raised by a read or write of `BUF[i]` with `i` outside `0..N-1`, an index that does not exist (20_memory.md R50).
  Safe. No state with `N` at least 1 raises it: every index the block forms is below `N`. -/
  | noSuchIndex (i : Nat)
  deriving DecidableEq, Repr

/-- Why a step is refused. -/
inductive Refusal
  /-- Raised by an arm of `exec` whose instruction has no meaning yet, by its mnemonic. Safe. No arm raises it. -/
  | notModelled (mnemonic : String)
  /-- Raised by `step` when the schedule's bytes encode no operation: an unused OP, a broken word (30_encoding.md R86,
  R73). Safe: the spec gives such bytes no meaning as an operation. -/
  | undecodable (e : DecodeError)
  /-- Raised by `step` for an operation whose agent takes no step of its own there: a FEED that the schedule puts outside
  any DRAIN in `MODE = DRAIN` (10_state.md R40: "RCN never steps on its own"). Safe: the spec has no such step. No meaning
  answers with it. -/
  | notEnabled (i : Instr)
  deriving DecidableEq, Repr

/-- What a meaning answers. -/
abbrev Out := Host.Outcome State Fault Refusal

/-- An instance with configuration `c` right after reset (10_state.md R42, 70_reset_and_hazards.md R240, R241). `RB`,
`LAST`, `EXPECT`, `CNT` and `BUF` are unspecified there: the values here are the model's (logs 7, 8). -/
def State.resetWith (c : Config) : State :=
  { cfg := c
    buf := []
    rb := { START := 0x00#8, VERSION := 0x00#8, LENGTH := 0x00#8, CMD := 0x00#8, FB := 0x00#8, P1 := 0x00#8,
            P2 := 0x00#8, CKH := 0x00#8, CKL := 0x00#8, END := 0x00#8 }
    ofs := 0
    rc := 0
    rem := c.capacity
    pend := { half := false, full := false, idle := false }
    res := .incomplete
    cause := 0x00#5
    status := 0x00#7
    last := { cmd := 0x00#8, fb := 0x00#8, p1 := 0x00#8, p2 := 0x00#8 }
    rdy := false
    co := .idle
    expect := 0x00#8
    cnt := 0
    wt := 0
    rt := 0
    trace := []
    schedule := []
    between := [] }

/-- The machine right after reset, with the default parameters `N` = 10, `MODE` = DRAIN (00_scope.md R8). -/
def State.reset : State := State.resetWith Config.default

end Sys2Proof.Machine
end

