-- ==== Sys2Proof/Machine/Flags.lean ====
section
/-!
DEFINITION. The condition codes of the block: the encodings of RES and CAUSE, the cause bits each FEED rule computes, the
sticky bits of STATUS, and the milestone flags of PEND.
-/

namespace Sys2Proof.Machine

/-! ## RES and CAUSE -/

/-- The 2-bit encoding of `RES` (30_encoding.md R87). -/
def resCode : ResCode → BitVec 2
  | .incomplete => 0b00#2
  | .complete => 0b01#2
  | .invalid => 0b10#2

/-- The value of `RES` for a result of FEED (42_codec_feed.md R122). -/
def resOf : FeedResult → ResCode
  | .incomplete => .incomplete
  | .complete _ => .complete
  | .invalid => .invalid

/-- No cause. -/
def causeNone : BitVec 5 := 0x00#5
/-- `BAD_CHK`, bit 0 (30_encoding.md R88). -/
def badChk : BitVec 5 := 0x01#5
/-- `BAD_END`, bit 1 (30_encoding.md R88). -/
def badEnd : BitVec 5 := 0x02#5
/-- `BAD_VER`, bit 2 (30_encoding.md R88). -/
def badVer : BitVec 5 := 0x04#5
/-- `BAD_LEN`, bit 3 (30_encoding.md R88). -/
def badLen : BitVec 5 := 0x08#5
/-- `RESYNC`, bit 4 (30_encoding.md R88). -/
def resync : BitVec 5 := 0x10#5

/-- `{bit if condition}`. -/
def causeIf (condition : Bool) (bit : BitVec 5) : BitVec 5 := if condition then bit else causeNone

/-- The cause of a frame rejected at offset 9: both tests are reported, and a start marker adds RESYNC
(42_codec_feed.md R126, R128, R130). -/
def endCause (endOk chkOk isMarker : Bool) : BitVec 5 :=
  causeIf (!endOk) badEnd ||| causeIf (!chkOk) badChk ||| causeIf isMarker resync

/-! ## STATUS -/

/-- `STATUS[4:0] OR c` (42_codec_feed.md R122; bits 4..0 have the meaning of CAUSE's, 10_state.md R31). -/
def statusOr (status : BitVec 7) (c : BitVec 5) : BitVec 7 := status ||| c.setWidth 7

/-- `IDLE_ABORT`, bit 5 (10_state.md R31). -/
def idleAbort : BitVec 7 := 0x20#7
/-- `LOST`, bit 6 (10_state.md R31). -/
def lost : BitVec 7 := 0x40#7

/-! ## PEND -/

/-- No notification pending. -/
def pendNone : Pending := { half := false, full := false, idle := false }

/-- Is a flag of PEND set? SVC is enabled only then (43_ingest.md R156). -/
def pendAny (p : Pending) : Bool := p.half || p.full || p.idle

/-- The milestones of 43_ingest.md R152, with `wp` the write cursor after the byte was counted. A flag already set
stays set. -/
def raiseMilestones (n wp : Nat) (p : Pending) : Pending :=
  { half := p.half || wp == halfMark n
    full := p.full || wp == 0
    idle := p.idle }

end Sys2Proof.Machine
end

