-- ==== Sys2Proof/Machine/Ops.lean ====
section
/-!
DEFINITION. The named operations over the state: sequencing, BUF, RB, what is emitted, the report of a FEED result (the
block's analogue of raising an exception), the frame latch, and the entry and the reset of a line-idle service.
-/

namespace Sys2Proof.Machine

/-! ## Sequencing -/

/-- Do `f` after `o`, unless `o` stopped. -/
def andThen (o : Out) (f : State → Out) : Out :=
  match o with
  | .next s => f s
  | .fault r => .fault r
  | .refused r => .refused r

/-- One step for each element of a list, in order. -/
def forEach {α : Type} (f : α → State → Out) : List α → State → Out
  | [], s => .next s
  | a :: as, s => andThen (f a s) (forEach f as)

/-! ## BUF -/

/-- What an index of BUF that the list does not hold reads as. The contents after power-on are unspecified (10_state.md
R42): DESIGN CHOICE, log 7. -/
def bufFill : Byte := 0x00#8

/-- The byte of a memory at an index. -/
def memGet (m : Memory) (i : Nat) : Byte :=
  match m with
  | [] => bufFill
  | (j, b) :: rest => if i = j then b else memGet rest i

/-- Put an entry before `rest`, unless it says what an unlisted index reads as. -/
def memCons (i : Nat) (b : Byte) (rest : Memory) : Memory := if b = bufFill then rest else (i, b) :: rest

/-- The memory with the byte at an index replaced, in canonical form. -/
def memSet (m : Memory) (i : Nat) (b : Byte) : Memory :=
  match m with
  | [] => memCons i b []
  | (j, c) :: rest =>
    if i < j then memCons i b ((j, c) :: rest)
    else if i = j then memCons i b rest
    else (j, c) :: memSet rest i b

/-- The canonical form above a bound: every index at least `lo`, rising, and no entry equal to `bufFill`. -/
def memWfFrom (lo : Nat) (m : Memory) : Bool :=
  match m with
  | [] => true
  | (j, b) :: rest => decide (lo ≤ j) && b != bufFill && memWfFrom (j + 1) rest

/-- The canonical form: indices strictly rising, no entry equal to what an unlisted index reads as. -/
def Memory.wf (m : Memory) : Bool := memWfFrom 0 m

/-- `MemRead(i, 1)`: the byte `BUF[i]`, with no side effect (00_scope.md R10, 20_memory.md R56). -/
def bufRead (i : Nat) (s : State) : Except Fault Byte :=
  if i < s.cfg.capacity then .ok (memGet s.buf i) else .error (.noSuchIndex i)

/-- `BUF[i] <- b`. -/
def storeByte (i : Nat) (b : Byte) (s : State) : State := { s with buf := memSet s.buf i b }

/-- `MemWrite(i, 1, b)`: the old byte is lost with no record (00_scope.md R10, 20_memory.md R56). -/
def bufWrite (i : Nat) (b : Byte) (s : State) : Out :=
  if i < s.cfg.capacity then .next (storeByte i b s) else .fault (.noSuchIndex i)

/-- `WP` (10_state.md R28). -/
def State.wp (s : State) : Nat := writeCursor s.cfg.capacity s.rem

/-! ## RB -/

/-- `RB[i]` (10_state.md R22, R23). -/
def rbRead (rb : ReplyBuffer) (i : Fin 10) : Byte :=
  match i with
  | 0 => rb.START
  | 1 => rb.VERSION
  | 2 => rb.LENGTH
  | 3 => rb.CMD
  | 4 => rb.FB
  | 5 => rb.P1
  | 6 => rb.P2
  | 7 => rb.CKH
  | 8 => rb.CKL
  | 9 => rb.END

/-- `RB[i] <- b` (10_state.md R22, R23). -/
def rbWrite (rb : ReplyBuffer) (i : Fin 10) (b : Byte) : ReplyBuffer :=
  match i with
  | 0 => { rb with START := b }
  | 1 => { rb with VERSION := b }
  | 2 => { rb with LENGTH := b }
  | 3 => { rb with CMD := b }
  | 4 => { rb with FB := b }
  | 5 => { rb with P1 := b }
  | 6 => { rb with P2 := b }
  | 7 => { rb with CKH := b }
  | 8 => { rb with CKL := b }
  | 9 => { rb with END := b }

/-- The variable fields of the frame in RB (42_codec_feed.md R127, R132). -/
def rbFields (rb : ReplyBuffer) : FrameFields := { cmd := rb.CMD, fb := rb.FB, p1 := rb.P1, p2 := rb.P2 }

/-- `chk_ok` over RB (42_codec_feed.md R126, 30_encoding.md R78). -/
def rbChecksumOk (rb : ReplyBuffer) : Bool :=
  checksumOk rb.VERSION rb.LENGTH rb.CMD rb.FB rb.P1 rb.P2 rb.CKH rb.CKL

/-! ## What leaves the block -/

/-- `emit result(r)` (00_scope.md R10). -/
def emitResult (r : OpResult) (s : State) : State := { s with trace := s.trace ++ [.result r] }

/-- `emit tx(b)` for each byte of a frame in offset order, with no other `emit tx` between them (41_codec_tx.md R101,
R102). The channel is taken to become ready for each byte (R103; log 10). -/
def transmit (f : Frame) (s : State) : State := { s with trace := s.trace ++ (frameBytes f).map .tx }

/-! ## The report of a FEED step -/

/-- What every FEED step writes besides RB and OFS (42_codec_feed.md R122). -/
def report (r : FeedResult) (c : BitVec 5) (s : State) : State :=
  emitResult (.fed r) { s with res := resOf r, cause := c, status := statusOr s.status c }

/-- `report Invalid(c)`, the block's analogue of raising an exception: it never stops the block and transfers no control
(00_scope.md R10, 42_codec_feed.md R122, 60_exceptions.md R216). -/
def reportInvalid (c : BitVec 5) (s : State) : State := report .invalid c s

/-- Start a new frame at a start marker: `RB[0] <- 0x7E ; OFS <- 1` (42_codec_feed.md R121, R123, R124, R130). -/
def startFrame (s : State) : State := { s with rb := rbWrite s.rb 0 SOF, ofs := 1 }

/-- `RB[OFS] <- b ; OFS <- OFS + 1`, for an offset below 9 (42_codec_feed.md R123, R124, R125). -/
def acceptByte (b : Byte) (s : State) : State := { s with rb := rbWrite s.rb s.ofs b, ofs := s.ofs + 1 }

/-- `OFS <- 0`: back to state Idle (60_exceptions.md R217). -/
def toIdle (s : State) : State := { s with ofs := 0 }

/-! ## The frame latch -/

/-- Latch a completed frame; an untaken one is overwritten and recorded in `STATUS.LOST` (42_codec_feed.md R132). -/
def latchFrame (s : State) : State :=
  { s with
    status := if s.rdy then s.status ||| lost else s.status
    last := rbFields s.rb
    rdy := true }

/-- `RDY <- 0` (42_codec_feed.md R131). -/
def clearReady (s : State) : State := { s with rdy := false }

/-- `TAKE()` without its emission: the frame the latch holds, and the state with `RDY` clear (42_codec_feed.md R131). -/
def takeLatched (s : State) : Option FrameFields × State :=
  if s.rdy then (some s.last, clearReady s) else (none, s)

/-! ## Service of notifications -/

/-- The entry of a service: `PEND <- {}` (43_ingest.md R156 sub-step 1, 60_exceptions.md R224). -/
def clearPending (s : State) : State := { s with pend := pendNone }

/-- The line-idle reset: a partial frame is dropped and recorded in `STATUS.IDLE_ABORT` (43_ingest.md R156
sub-step 3). -/
def lineIdleReset (s : State) : State :=
  toIdle (if s.ofs ≠ 0 then { s with status := s.status ||| idleAbort } else s)

end Sys2Proof.Machine
end

