-- ==== Sys2Proof/Machine/Coordinator.lean ====
section
/-!
DEFINITION. The Command/Response Coordinator: SEND, REQ, POLL and TICK (44_coordinator.md R180 to R186).
-/

namespace Sys2Proof.Machine

/-- `send(cmd, p1, p2)`: Busy while a request is outstanding, else the encoded frame goes out (44_coordinator.md R180,
R186). -/
def sendCommand (cmd p1 p2 : Byte) (s : State) : Out :=
  match s.co with
  | .awaitingReply => .next (emitResult .busy s)
  | .idle => .next (emitResult .sent (transmit (encodeFrame cmd p1 p2) s))

/-- The Pending Command is created (44_coordinator.md R181, R187). -/
def createPending (cmd : Byte) (timeout : Nat) (s : State) : State :=
  { s with rdy := false, expect := cmd, cnt := timeout, co := .awaitingReply }

/-- The issuing half of `request(cmd, p1, p2, timeout)` (44_coordinator.md R181, R186). -/
def requestCommand (cmd p1 p2 : Byte) (timeout : Nat) (s : State) : Out :=
  match s.co with
  | .awaitingReply => .next (emitResult .busy s)
  | .idle => .next (emitResult .issued (transmit (encodeFrame cmd p1 p2) (createPending cmd timeout s)))

/-- The Pending Command is consumed by its reply (44_coordinator.md R182). -/
def consumePending (s : State) : State := { s with co := .idle }

/-- The timeout actions (44_coordinator.md R184). -/
def timeoutActions (s : State) : State := { s with co := .idle, ofs := 0, rdy := false }

/-- POLL when the latch holds no matching frame (44_coordinator.md R182, last two branches). -/
def pollUnanswered (s : State) : State :=
  if s.cnt = 0 then emitResult .timedOut (timeoutActions s) else emitResult .waiting s

/-- SEND (44_coordinator.md R180). -/
def execSend (cmd p1 p2 : Byte) (s : State) : Out := sendCommand cmd p1 p2 s

/-- REQ (44_coordinator.md R181). -/
def execReq (cmd p1 p2 : Byte) (timeout : Nat) (s : State) : Out := requestCommand cmd p1 p2 timeout s

/-- POLL (44_coordinator.md R182): a matching frame is looked at before the count. -/
def execPoll (s : State) : Out :=
  match s.co with
  | .idle => .next (emitResult .notWaiting s)
  | .awaitingReply =>
    match takeLatched s with
    | (some f, s') =>
      if f.cmd = s'.expect then .next (emitResult (.reply f.p1 f.p2) (consumePending s'))
      else .next (pollUnanswered s')
    | (none, s') => .next (pollUnanswered s')

/-- TICK: the count goes down, never below 0, while a request is outstanding (44_coordinator.md R183). -/
def execTick (s : State) : Out :=
  match s.co with
  | .idle => .next s
  | .awaitingReply => .next { s with cnt := s.cnt - 1 }

end Sys2Proof.Machine
end

