-- ==== Sys2Proof/Machine/Receive.lean ====
section
/-!
DEFINITION. The receive side of the codec: FEED, the reconstruction state machine, and TAKE and CLRS
(42_codec_feed.md).
-/

namespace Sys2Proof.Machine

/-- FEED in state Idle, `OFS = 0` (42_codec_feed.md R121). -/
def feedIdle (b : Byte) (s : State) : State :=
  if b = SOF then report .incomplete causeNone (startFrame s) else report .incomplete causeNone s

/-- FEED where one constant is expected: Version (42_codec_feed.md R123) and Length (R124). -/
def feedConstant (expected : Byte) (bad : BitVec 5) (b : Byte) (s : State) : State :=
  if b = expected then report .incomplete causeNone (acceptByte b s)
  else if b = SOF then reportInvalid (bad ||| resync) (startFrame s)
  else reportInvalid bad (toIdle s)

/-- FEED at offsets 3 to 8, where every byte value is data (42_codec_feed.md R125). -/
def feedPayload (b : Byte) (s : State) : State := report .incomplete causeNone (acceptByte b s)

/-- `RB[9] <- b` (42_codec_feed.md R126). -/
def storeEnd (b : Byte) (s : State) : State := { s with rb := rbWrite s.rb 9 b }

/-- FEED in state Complete, `OFS = 9`: both tests, then one of three endings (42_codec_feed.md R126 and R127, R128,
R130). -/
def feedEnd (b : Byte) (s : State) : State :=
  let s' := storeEnd b s
  let endOk := b == EOF
  let chkOk := rbChecksumOk s'.rb
  if endOk && chkOk then report (.complete (rbFields s'.rb)) causeNone (latchFrame (toIdle s'))
  else if b = SOF then reportInvalid (endCause endOk chkOk true) (startFrame s')
  else reportInvalid (endCause endOk chkOk false) (toIdle s')

/-- One step of the reconstruction state machine, total in every state and for every byte (42_codec_feed.md R120). -/
def feedByte (b : Byte) (s : State) : State :=
  if s.ofs = 0 then feedIdle b s
  else if s.ofs = 1 then feedConstant VER badVer b s
  else if s.ofs = 2 then feedConstant LEN badLen b s
  else if s.ofs = 9 then feedEnd b s
  else feedPayload b s

/-- FEED, in whichever step it is a sub-step of (42_codec_feed.md R120; named by the schedule itself, log 6). -/
def execFeed (b : Byte) (s : State) : Out := .next (feedByte b s)

/-- TAKE (42_codec_feed.md R131). -/
def execTake (s : State) : Out :=
  match takeLatched s with
  | (f, s') => .next (emitResult (.taken f) s')

/-- CLRS (42_codec_feed.md R133). -/
def execClrs (s : State) : Out := .next { s with status := 0x00#7 }

end Sys2Proof.Machine
end

