-- ==== Sys2Proof/Machine/Ingest.lean ====
section
/-!
DEFINITION. The receive engine: RXB and IDLE (43_ingest.md R150 to R153).
-/

namespace Sys2Proof.Machine

/-- Sub-step 2 of RXB: the byte is counted, `WT` with it (43_ingest.md R150). -/
def countByte (s : State) : State := { s with rem := countDown s.cfg.capacity s.rem, wt := s.wt + 1 }

/-- Sub-step 3 of RXB: the milestones, over the new write cursor (43_ingest.md R152). -/
def notifyMilestones (s : State) : State := { s with pend := raiseMilestones s.cfg.capacity s.wp s.pend }

/-- RXB in `MODE = DRAIN`: store, then count, then notify, without a look at `RC` (43_ingest.md R150; 20_memory.md R57,
R59, R62). -/
def receiveToBuffer (b : Byte) (s : State) : Out :=
  andThen (bufWrite s.wp b s) fun s' => .next (notifyMilestones (countByte s'))

/-- One received byte, by the delivery mode (43_ingest.md R150, R151). -/
def receiveByte (b : Byte) (s : State) : Out :=
  match s.cfg.mode with
  | .push => .next (feedByte b s)
  | .drain => receiveToBuffer b s

/-- RXB (43_ingest.md R150, R151). -/
def execRxb (b : Byte) (s : State) : Out := receiveByte b s

/-- IDLE: `PEND.IDLE <- 1`, in either mode (43_ingest.md R153, R160). -/
def execIdle (s : State) : Out := .next { s with pend := { s.pend with idle := true } }

end Sys2Proof.Machine
end

