-- ==== Sys2Proof/Machine/Transmit.lean ====
section
/-!
DEFINITION. The transmit side of the codec: ENC and TX (41_codec_tx.md).
-/

namespace Sys2Proof.Machine

/-- ENC: a pure function that reads and writes no state and returns the ten bytes (41_codec_tx.md R100). -/
def execEnc (cmd p1 p2 : Byte) (s : State) : Out := .next (emitResult (.encoded (encodeFrame cmd p1 p2)) s)

/-- TX: the ten bytes, in offset order (41_codec_tx.md R101). No error path; as one step (R102). -/
def execTx (f : Frame) (s : State) : Out := .next (transmit f s)

end Sys2Proof.Machine
end

