-- ==== Sys2Proof/Machine/Drain.lean ====
section
/-!
DEFINITION. The drain engine: DRAIN and SVC, with the points where other agents' steps fall between their sub-steps
(43_ingest.md R154 to R160, 20_memory.md R60).
-/

namespace Sys2Proof.Machine

/-! ## Steps of other agents inside a drain -/

/-- One atomic step of another agent, by the meaning of its operation. -/
def runIntruder (e : Intruder) (s : State) : Out :=
  match e with
  | .rxb b => execRxb b s
  | .idle => execIdle s
  | .enc cmd p1 p2 => execEnc cmd p1 p2 s
  | .tx f => execTx f s
  | .take => execTake s
  | .clrs => execClrs s
  | .send cmd p1 p2 => execSend cmd p1 p2 s
  | .req cmd p1 p2 timeout => execReq cmd p1 p2 timeout s
  | .poll => execPoll s
  | .tick => execTick s

/-- The slots still to come after the one at hand. -/
def setBetween (slots : List (List Intruder)) (s : State) : State := { s with between := slots }

/-- A point between two sub-steps: the steps the environment has for it, none when `between` is empty (20_memory.md R60;
log 2). -/
def interleave (s : State) : Out :=
  match s.between with
  | [] => .next s
  | slot :: rest => forEach runIntruder slot (setBetween rest s)

/-! ## DRAIN -/

/-- Ghost `RT` counts a byte read (10_state.md R36). -/
def countRead (s : State) : State := { s with rt := s.rt + 1 }

/-- `RC <- w` (10_state.md R26). -/
def setReadCursor (w : Nat) (s : State) : State := { s with rc := w }

/-- `FEED(MemRead(i, 1))`, one atomic step; `RT` counts the byte (43_ingest.md R154, 20_memory.md R60, R61). -/
def readAndFeed (i : Nat) (s : State) : Out :=
  match bufRead i s with
  | .ok b => .next (feedByte b (countRead s))
  | .error f => .fault f

/-- The read of one byte, with the point before it. -/
def drainByte (i : Nat) (s : State) : Out := andThen (interleave s) (readAndFeed i)

/-- Sub-steps 2 to 4 of DRAIN with the snapshot `w` of the write cursor: nothing new, or the reads in order and then the
point after the last one and `RC <- W` (43_ingest.md R154). -/
def drainTo (w : Nat) (s : State) : Out :=
  if w = s.rc then .next s
  else
    andThen (forEach drainByte (drainIndices s.cfg.capacity s.rc w) s) fun s' =>
      andThen (interleave s') fun s'' => .next (setReadCursor w s'')

/-- The drain, which does nothing in `MODE = PUSH` (43_ingest.md R154). -/
def drainBuffer (s : State) : Out :=
  match s.cfg.mode with
  | .push => .next s
  | .drain => drainTo s.wp s

/-- DRAIN on its own: it neither reads nor clears PEND and never resets OFS (43_ingest.md R154, R158). -/
def execDrain (s : State) : Out := drainBuffer s

/-! ## SVC -/

/-- The three sub-steps of a service, with the points between them (43_ingest.md R156, R157, R160). -/
def service (s : State) : Out :=
  andThen (interleave (clearPending s)) fun s1 =>
    andThen (drainBuffer s1) fun s2 =>
      andThen (interleave s2) fun s3 =>
        .next (if s.pend.idle then lineIdleReset s3 else s3)

/-- SVC: enabled when a flag of PEND is set (43_ingest.md R156). Where none is, the drain engine takes no step and the
slot passes with no effect (log 11). -/
def execSvc (s : State) : Out := if pendAny s.pend then service s else .next s

end Sys2Proof.Machine
end

