-- ==== Sys2Proof/Machine/Reset.lean ====
section
/-!
DEFINITION. RST (70_reset_and_hazards.md R240).
-/

namespace Sys2Proof.Machine

/-- RST: the elements R240 lists get their reset values; BUF, RB, LAST, EXPECT and CNT are not written and MODE is
unchanged (70_reset_and_hazards.md R240; log 9). DESIGN CHOICE, log 15: RST runs at any point between operations, and the
receive engine is taken as restarted with it, so that the next byte goes to `BUF[0]`; R240 lets a model restrict RST to
the initial state, and 93_implementation_defined.md U6 gives it no meaning with the engine running. -/
def execRst (s : State) : Out :=
  .next
    { s with
      rem := s.cfg.capacity
      rc := 0
      pend := pendNone
      ofs := 0
      res := .incomplete
      cause := causeNone
      status := 0x00#7
      rdy := false
      co := .idle
      wt := 0
      rt := 0 }

end Sys2Proof.Machine
end

