-- ==== Sys2Proof/Machine/Wire.lean ====
section
/-!
DEFINITION. The wire words: the generic frame in both directions, and the seven commands the host issues
(30_encoding.md R70 to R73, R81, R90; 44_coordinator.md R188 to R194).
-/

namespace Sys2Proof.Machine

/-- A frame on the wire. Inward, its ten bytes arrive in the order of their offsets, one RXB each (20_memory.md R51, R65,
43_ingest.md R150, R151); outward, they are put on the Byte Channel in that order (41_codec_tx.md R101). -/
def execFrame (dir : Direction) (cmd fb p1 p2 ckH ckL : Byte) (s : State) : Out :=
  match dir with
  | .inward => forEach receiveByte (frameBytes (framePattern cmd fb p1 p2 ckH ckL)) s
  | .outward => .next (transmit (framePattern cmd fb p1 p2 ckH ckL) s)

/-! The host issues a command by its code and parameters; ENC makes the feedback byte and the checksum (30_encoding.md
R80, R90), so the word's own take no part. In a well-formed word they are the ones ENC makes. -/

/-- INIT_SOURCE, issued with SEND (44_coordinator.md R188). -/
def execInitSource (_fb p1 p2 _ckH _ckL : Byte) (s : State) : Out := sendCommand cmdInitSource p1 p2 s

/-- SET_VOLUME, issued with SEND (44_coordinator.md R189). -/
def execSetVolume (_fb p1 p2 _ckH _ckL : Byte) (s : State) : Out := sendCommand cmdSetVolume p1 p2 s

/-- PAUSE, issued with SEND (44_coordinator.md R190). -/
def execPause (_fb p1 p2 _ckH _ckL : Byte) (s : State) : Out := sendCommand cmdPause p1 p2 s

/-- RESUME, issued with SEND (44_coordinator.md R191). -/
def execResume (_fb p1 p2 _ckH _ckL : Byte) (s : State) : Out := sendCommand cmdResume p1 p2 s

/-- PLAY_FOLDER, `P1` the folder and `P2` the track, issued with SEND (44_coordinator.md R192). -/
def execPlayFolder (_fb p1 p2 _ckH _ckL : Byte) (s : State) : Out := sendCommand cmdPlayFolder p1 p2 s

/-- LOOP_FOLDER, issued with SEND (44_coordinator.md R193). -/
def execLoopFolder (_fb p1 p2 _ckH _ckL : Byte) (s : State) : Out := sendCommand cmdLoopFolder p1 p2 s

/-- QUERY_FOLDER_COUNT, `P2` the folder, issued with REQ (44_coordinator.md R194). -/
def execQueryFolderCount (_fb p1 p2 _ckH _ckL : Byte) (timeout : Nat) (s : State) : Out :=
  requestCommand cmdQueryFolderCount p1 p2 timeout s

end Sys2Proof.Machine
end

