-- ==== Sys2Proof/Machine/Dispatch.lean ====
section
/-!
DEFINITION. The meaning of every operation and word, one arm per constructor of Instr.
-/

namespace Sys2Proof.Machine

def exec (i : Instr) (s : State) : Host.Outcome State Fault Refusal :=
  match i with
  | .rst => Sys2Proof.Machine.execRst s
  | .enc cmd p1 p2 => Sys2Proof.Machine.execEnc cmd p1 p2 s
  | .tx f => Sys2Proof.Machine.execTx f s
  | .feed b => Sys2Proof.Machine.execFeed b s
  | .take => Sys2Proof.Machine.execTake s
  | .clrs => Sys2Proof.Machine.execClrs s
  | .rxb b => Sys2Proof.Machine.execRxb b s
  | .idle => Sys2Proof.Machine.execIdle s
  | .drain => Sys2Proof.Machine.execDrain s
  | .svc => Sys2Proof.Machine.execSvc s
  | .send cmd p1 p2 => Sys2Proof.Machine.execSend cmd p1 p2 s
  | .req cmd p1 p2 timeout => Sys2Proof.Machine.execReq cmd p1 p2 timeout s
  | .poll => Sys2Proof.Machine.execPoll s
  | .tick => Sys2Proof.Machine.execTick s
  | .frame dir cmd fb p1 p2 ckH ckL => Sys2Proof.Machine.execFrame dir cmd fb p1 p2 ckH ckL s
  | .initSource fb p1 p2 ckH ckL => Sys2Proof.Machine.execInitSource fb p1 p2 ckH ckL s
  | .setVolume fb p1 p2 ckH ckL => Sys2Proof.Machine.execSetVolume fb p1 p2 ckH ckL s
  | .pause fb p1 p2 ckH ckL => Sys2Proof.Machine.execPause fb p1 p2 ckH ckL s
  | .resume fb p1 p2 ckH ckL => Sys2Proof.Machine.execResume fb p1 p2 ckH ckL s
  | .playFolder fb p1 p2 ckH ckL => Sys2Proof.Machine.execPlayFolder fb p1 p2 ckH ckL s
  | .loopFolder fb p1 p2 ckH ckL => Sys2Proof.Machine.execLoopFolder fb p1 p2 ckH ckL s
  | .queryFolderCount fb p1 p2 ckH ckL timeout => Sys2Proof.Machine.execQueryFolderCount fb p1 p2 ckH ckL timeout s

end Sys2Proof.Machine
end

