-- ==== Sys2Proof/Machine/Fetch.lean ====
section
/-!
DEFINITION. What the next step runs: the operation at the head of the schedule (log 1), where its agent has a step of its
own (log 6).
-/

namespace Sys2Proof.Machine

/-- What the schedule holds for the next step. -/
inductive Fetched
  | rest                                     -- nothing is scheduled
  | run (i : Instr) (remaining : List Byte)  -- the operation, and the schedule after it
  | broken (e : DecodeError)                 -- bytes that encode no operation
  | barred (i : Instr)                       -- an operation that is no step of its own here
  deriving DecidableEq, Repr

/-- May the schedule name the operation as a step? RCN never steps on its own: its FEED is a sub-step of a DRAIN, or, in
`MODE = PUSH`, of an RXB, of which it is then the whole (10_state.md R40, 43_ingest.md R151, R154). So a FEED by itself
is the RXB that brings its byte in `MODE = PUSH`, and no step in `MODE = DRAIN` (log 6). -/
def stepsAlone (mode : Mode) (i : Instr) : Bool :=
  match mode, i with
  | .drain, .feed _ => false
  | _, _ => true

/-- What decoded bytes are to the next step. -/
def classify (mode : Mode) (d : Decoded) : Fetched :=
  match d with
  | .ok (i, remaining) => if stepsAlone mode i then .run i remaining else .barred i
  | .error e => .broken e

/-- Read the head of the schedule. -/
def fetch (s : State) : Fetched :=
  match s.schedule with
  | [] => .rest
  | b :: bs => classify s.cfg.mode (decode (b :: bs))

/-- The instance in which a table row's word is a step: for FEED one with `MODE = PUSH`, the mode in which its agent steps
with a byte that the environment brings (log 6); any instance for every other word. -/
def configToRun (word : Option Instr) (c : Config) : Config :=
  match word with
  | some (.feed _) => { c with mode := .push }
  | _ => c

/-- Put the operation that a table row's word is before the schedule, in an instance where it is a step. -/
def scheduleWord (nbits w : Nat) (s : State) : State :=
  { s with
    cfg := configToRun (decodeTableWord nbits w) s.cfg
    schedule := instructionBytes nbits w ++ s.schedule }

end Sys2Proof.Machine
end

