-- ==== Sys2Proof/Machine/Step.lean ====
section
/-!
DEFINITION. One step: the agent that the schedule names next performs its operation (10_state.md R40, R43).
-/

namespace Sys2Proof.Machine

/-- One step. With nothing scheduled the machine is at rest and nothing happens (70_reset_and_hazards.md R256). -/
def step (s : State) : Host.Outcome State Fault Refusal :=
  match fetch s with
  | .rest => .next s
  | .run i remaining => exec i { s with schedule := remaining }
  | .broken e => .refused (.undecodable e)
  | .barred i => .refused (.notEnabled i)

/-- `s` with a table row's word, its operand bytes zeros, as the next operation of the schedule; for FEED, in `MODE = PUSH`
(log 6). -/
def State.withFetchWord (s : State) (nbits w : Nat) : State := scheduleWord nbits w s

end Sys2Proof.Machine
end

