-- ==== Sys2Proof/Safety.lean ====
section
/-!
DEFINITION. What a good state and a safe run are, in the terms the statements use.
-/

namespace Sys2Proof.Machine

/-- The byte `BUF[i]` of a state. -/
def State.bufAt (s : State) (i : Nat) : Byte := memGet s.buf i

/-- The number of unread bytes a drain sees, `(W - RC) mod N` (43_ingest.md R162, R165). -/
def State.unread (s : State) : Nat := (s.wp + s.cfg.capacity - s.rc) % s.cfg.capacity

/-- The no-overrun condition `WT - RT <= N - 1` (20_memory.md R61). -/
def State.noOverrun (s : State) : Prop := s.wt + 1 ≤ s.rt + s.cfg.capacity

/-- Nothing is left to do for the bytes received (70_reset_and_hazards.md R256). -/
def State.atRest (s : State) : Prop := s.schedule = [] ∧ s.pend = pendNone ∧ (s.cfg.mode = .drain → s.wp = s.rc)

/-- The values of `CAUSE` that a FEED step can leave with `RES = Invalid` (30_encoding.md R88). -/
def causeValues : List (BitVec 5) :=
  [0x04#5, 0x14#5, 0x08#5, 0x18#5, 0x01#5, 0x02#5, 0x03#5, 0x12#5, 0x13#5]

/-- BUF is in canonical form and lists only indices that exist. -/
abbrev State.BufInv (s : State) : Prop :=
  Memory.wf s.buf = true ∧ ∀ c ∈ s.buf, c.1 < s.cfg.capacity

/-- The ranges of the cursors, and their relation to the ghost counters: `WP = WT mod N`, `RC = RT mod N`
(10_state.md R41, R36). -/
abbrev State.CursorInv (s : State) : Prop :=
  1 ≤ s.rem ∧ s.rem ≤ s.cfg.capacity ∧ s.rc < s.cfg.capacity ∧
    s.wp = s.wt % s.cfg.capacity ∧ s.rc = s.rt % s.cfg.capacity ∧ s.rt ≤ s.wt

/-- The constant bytes already accepted stand in RB (10_state.md R41). -/
abbrev State.HeadInv (s : State) : Prop :=
  (1 ≤ s.ofs.val → s.rb.START = 0x7E#8) ∧ (2 ≤ s.ofs.val → s.rb.VERSION = 0xFF#8) ∧
    (3 ≤ s.ofs.val → s.rb.LENGTH = 0x06#8)

/-- `CAUSE = 0` unless `RES = Invalid`, and then one of the nine values (10_state.md R41, 30_encoding.md R88). -/
abbrev State.CauseInv (s : State) : Prop :=
  (s.res ≠ .invalid → s.cause = 0x00#5) ∧ (s.res = .invalid → s.cause ∈ causeValues)

/-- The invariant of every instance: its parameters are legal (00_scope.md R8) and 10_state.md R41 holds, with BUF in
canonical form and the cursors where the ghost counters say. -/
abbrev State.Inv (s : State) : Prop := s.cfg.wf ∧ s.BufInv ∧ s.CursorInv ∧ s.HeadInv ∧ s.CauseInv

/-- `chk_ok` of 30_encoding.md R78 over the registers, in numbers: the carried checksum `RB[7] * 256 + RB[8]` is
`(65536 - sum) mod 65536` of the six covered bytes. -/
abbrev State.checksumMatches (s : State) : Prop :=
  s.rb.CKH.toNat * 256 + s.rb.CKL.toNat =
    (65536 - (s.rb.VERSION.toNat + s.rb.LENGTH.toNat + s.rb.CMD.toNat + s.rb.FB.toNat + s.rb.P1.toNat +
      s.rb.P2.toNat)) % 65536

/-- The operation that an atomic step of another agent inside a drain is (20_memory.md R60, 10_state.md R40). -/
def Intruder.operation : Intruder → Instr
  | .rxb b => .rxb b
  | .idle => .idle
  | .enc cmd p1 p2 => .enc cmd p1 p2
  | .tx f => .tx f
  | .take => .take
  | .clrs => .clrs
  | .send cmd p1 p2 => .send cmd p1 p2
  | .req cmd p1 p2 timeout => .req cmd p1 p2 timeout
  | .poll => .poll
  | .tick => .tick

/-- What the other agents do at the `j`-th point that is still to come: nothing once the slots are used up (log 2). -/
def State.operationsAt (s : State) (j : Nat) : List Instr := (s.between.getD j []).map Intruder.operation

/-- Perform operations one after another, by the meaning of each. -/
def performAll (is : List Instr) (s : State) : Out := forEach exec is s

/-- The answer is that of the host issuing command `code` with SEND: Busy and nothing else while a request is
outstanding, else the ten bytes of the frame with feedback 0x00 and the checksum of 30_encoding.md R76, and Sent
(44_coordinator.md R180, R186). -/
def AnswersSend (code p1 p2 : Byte) (s : State) (o : Out) : Prop :=
  (s.co = .awaitingReply → o = .next { s with trace := s.trace ++ [.result .busy] }) ∧
  (s.co = .idle →
    ∃ h l : Byte,
      h.toNat * 256 + l.toNat = 65536 - (0xFF + 0x06 + code.toNat + p1.toNat + p2.toNat) ∧
      o = .next
        { s with
          trace := s.trace ++
            [.tx 0x7E#8, .tx 0xFF#8, .tx 0x06#8, .tx code, .tx 0x00#8, .tx p1, .tx p2, .tx h, .tx l, .tx 0xEF#8,
             .result .sent] })

/-- The answer is that of the host issuing command `code` with REQ (44_coordinator.md R181, R186). -/
def AnswersRequest (code p1 p2 : Byte) (timeout : Nat) (s : State) (o : Out) : Prop :=
  (s.co = .awaitingReply → o = .next { s with trace := s.trace ++ [.result .busy] }) ∧
  (s.co = .idle →
    ∃ h l : Byte,
      h.toNat * 256 + l.toNat = 65536 - (0xFF + 0x06 + code.toNat + p1.toNat + p2.toNat) ∧
      o = .next
        { s with
          rdy := false
          expect := code
          cnt := timeout
          co := .awaitingReply
          trace := s.trace ++
            [.tx 0x7E#8, .tx 0xFF#8, .tx 0x06#8, .tx code, .tx 0x00#8, .tx p1, .tx p2, .tx h, .tx l, .tx 0xEF#8,
             .result .issued] })

/-- Does an operation let bytes reach BUF by itself? Only the receive engine writes BUF and REM (20_memory.md R63), by
RXB and by a frame that arrives. -/
def receives : Instr → Bool
  | .rxb _ => true
  | .frame .inward _ _ _ _ _ _ => true
  | _ => false

/-- Is it an operation of the drain engine? Only it reads BUF and writes RC (20_memory.md R63). -/
def drains : Instr → Bool
  | .drain => true
  | .svc => true
  | _ => false

end Sys2Proof.Machine
end

