-- ==== Sys2Proof/WellFormed.lean ====
section
/-!
DEFINITION. Which instructions are well formed: the ones whose operands are values the spec's operations make or admit.
Every instruction decodes, encodes and runs whether or not it is well formed.
-/

namespace Sys2Proof

/-- A wire command as the host issues it: the feedback byte is 0x00 and the carried checksum is the computed one, so
that the word is the frame SEND and REQ build (30_encoding.md R80, R76; 44_coordinator.md R188 to R194). -/
def commandWellFormed (cmd fb p1 p2 ckH ckL : Byte) : Bool :=
  fb == 0x00#8 && Machine.checksumOk VER LEN cmd fb p1 p2 ckH ckL

/-- TX takes a Frame "as produced by ENC" or, as a frame put on the line, one that satisfies R73 (41_codec_tx.md R101).
A frame that arrives may carry any bytes at its free offsets (30_encoding.md R82 to R84). The query is issued with
param1 = 0x00 (44_coordinator.md R194). Every other operand is a byte or a natural number with no illegal value. -/
def Instr.wellFormed : Instr → Bool
  | .rst => true
  | .enc _ _ _ => true
  | .tx f => Machine.frameWellFormed f
  | .feed _ => true
  | .take => true
  | .clrs => true
  | .rxb _ => true
  | .idle => true
  | .drain => true
  | .svc => true
  | .send _ _ _ => true
  | .req _ _ _ _ => true
  | .poll => true
  | .tick => true
  | .frame .inward _ _ _ _ _ _ => true
  | .frame .outward cmd fb p1 p2 ckH ckL => Machine.checksumOk VER LEN cmd fb p1 p2 ckH ckL
  | .initSource fb p1 p2 ckH ckL => commandWellFormed Machine.cmdInitSource fb p1 p2 ckH ckL
  | .setVolume fb p1 p2 ckH ckL => commandWellFormed Machine.cmdSetVolume fb p1 p2 ckH ckL
  | .pause fb p1 p2 ckH ckL => commandWellFormed Machine.cmdPause fb p1 p2 ckH ckL
  | .resume fb p1 p2 ckH ckL => commandWellFormed Machine.cmdResume fb p1 p2 ckH ckL
  | .playFolder fb p1 p2 ckH ckL => commandWellFormed Machine.cmdPlayFolder fb p1 p2 ckH ckL
  | .loopFolder fb p1 p2 ckH ckL => commandWellFormed Machine.cmdLoopFolder fb p1 p2 ckH ckL
  | .queryFolderCount fb p1 p2 ckH ckL _ =>
    p1 == 0x00#8 && commandWellFormed Machine.cmdQueryFolderCount fb p1 p2 ckH ckL

end Sys2Proof
end

