-- ==== Sys2Proof/Certificates/Slice0/Obligations.lean ====
section
/-!
DEFINITION. The statements for the provers. Each docstring names the rule of spec/ the statement formalises.
-/

open Sys2Proof Sys2Proof.Machine

/-! ## Reset -/

/-- 10_state.md R42, 70_reset_and_hazards.md R241: what reset leaves, for every `N` and `MODE`. BUF, RB, LAST, EXPECT and
CNT are unspecified there, and nothing is said of them here. -/
def Obligations.ResetLeavesAnIdleBlock : Prop :=
  ∀ c : Config,
    let s := State.resetWith c
    s.rem = c.capacity ∧ s.wp = 0 ∧ s.rc = 0 ∧ s.pend = { half := false, full := false, idle := false } ∧
      s.ofs = 0 ∧ s.res = .incomplete ∧ s.cause = 0x00#5 ∧ s.status = 0x00#7 ∧ s.rdy = false ∧
      s.cfg.mode = c.mode ∧ s.co = .idle ∧ s.wt = 0 ∧ s.rt = 0

/-- 70_reset_and_hazards.md R240: RST, from every state. That the elements R240 calls not written and unspecified stay as
they were is the MODEL's reading (log 9); that RST runs at any point between operations, with the receive engine restarted
by it, is the MODEL's choice (log 15). -/
def Obligations.RstGivesTheResetValues : Prop :=
  ∀ s : State,
    exec .rst s = .next
      { s with
        rem := s.cfg.capacity
        rc := 0
        pend := { half := false, full := false, idle := false }
        ofs := 0
        res := .incomplete
        cause := 0x00#5
        status := 0x00#7
        rdy := false
        co := .idle
        wt := 0
        rt := 0 }

/-! ## The checksum, ENC and TX -/

/-- 30_encoding.md R77: the range of the checksum of a well-formed frame, both ends of it reached, and its two bytes. -/
def Obligations.ChecksumOfAFrameLiesInItsRange : Prop :=
  (∀ cmd fb p1 p2 : Byte,
    0xFAFF ≤ (csum 0xFF#8 0x06#8 cmd fb p1 p2).toNat ∧ (csum 0xFF#8 0x06#8 cmd fb p1 p2).toNat ≤ 0xFEFB ∧
      highByte (csum 0xFF#8 0x06#8 cmd fb p1 p2) ∈ [0xFA#8, 0xFB#8, 0xFC#8, 0xFD#8, 0xFE#8]) ∧
  csum 0xFF#8 0x06#8 0xFF#8 0xFF#8 0xFF#8 0xFF#8 = 0xFAFF#16 ∧
  csum 0xFF#8 0x06#8 0x00#8 0x00#8 0x00#8 0x00#8 = 0xFEFB#16 ∧
  ∀ l : Byte, ∃ cmd fb p1 p2 : Byte, lowByte (csum 0xFF#8 0x06#8 cmd fb p1 p2) = l

/-- 30_encoding.md R78: the test of a received checksum, and its equivalent form. -/
def Obligations.ChecksumTestHasItsTwoForms : Prop :=
  ∀ ver len cmd fb p1 p2 h l : Byte,
    let sum := ver.toNat + len.toNat + cmd.toNat + fb.toNat + p1.toNat + p2.toNat
    (checksumOk ver len cmd fb p1 p2 h l = true ↔ h.toNat * 256 + l.toNat = (65536 - sum) % 65536) ∧
      (checksumOk ver len cmd fb p1 p2 h l = true ↔ (sum + (h.toNat * 256 + l.toNat)) % 65536 = 0)

/-- 41_codec_tx.md R100: ENC returns the ten bytes and changes nothing; the checksum is that of 30_encoding.md R76. -/
def Obligations.EncReturnsTheEncodedFrame : Prop :=
  ∀ (cmd p1 p2 : Byte) (s : State),
    ∃ h l : Byte,
      h.toNat * 256 + l.toNat = 65536 - (0xFF + 0x06 + cmd.toNat + 0x00 + p1.toNat + p2.toNat) ∧
      exec (.enc cmd p1 p2) s = .next
        { s with
          trace := s.trace ++
            [.result (.encoded
              { start := 0x7E#8, version := 0xFF#8, length := 0x06#8, command := cmd, feedback := 0x00#8,
                param1 := p1, param2 := p2, ckHigh := h, ckLow := l, endMark := 0xEF#8 })] }

/-- 41_codec_tx.md R101: TX emits the ten bytes in offset order, and changes nothing else. R101 takes a Frame; that ten bytes
which are no Frame go out as given too is the MODEL's choice (log 13). -/
def Obligations.TxEmitsTenBytesInOrder : Prop :=
  ∀ (f : Frame) (s : State),
    exec (.tx f) s = .next
      { s with
        trace := s.trace ++
          [.tx f.start, .tx f.version, .tx f.length, .tx f.command, .tx f.feedback, .tx f.param1, .tx f.param2,
           .tx f.ckHigh, .tx f.ckLow, .tx f.endMark] }

/-! ## FEED -/

/-- 42_codec_feed.md R121: FEED in state Idle. -/
def Obligations.FeedInIdle : Prop :=
  ∀ (s : State) (b : Byte), s.ofs = 0 →
    exec (.feed b) s = .next
      (if b = 0x7E#8 then
        { s with
          rb := { s.rb with START := 0x7E#8 }
          ofs := 1
          res := .incomplete
          cause := 0x00#5
          trace := s.trace ++ [.result (.fed .incomplete)] }
      else
        { s with
          res := .incomplete
          cause := 0x00#5
          trace := s.trace ++ [.result (.fed .incomplete)] })

/-- 42_codec_feed.md R123: FEED in state Version. -/
def Obligations.FeedInVersion : Prop :=
  ∀ (s : State) (b : Byte), s.ofs = 1 →
    exec (.feed b) s = .next
      (if b = 0xFF#8 then
        { s with
          rb := { s.rb with VERSION := 0xFF#8 }
          ofs := 2
          res := .incomplete
          cause := 0x00#5
          trace := s.trace ++ [.result (.fed .incomplete)] }
      else if b = 0x7E#8 then
        { s with
          rb := { s.rb with START := 0x7E#8 }
          ofs := 1
          res := .invalid
          cause := 0x14#5
          status := s.status ||| 0x14#7
          trace := s.trace ++ [.result (.fed .invalid)] }
      else
        { s with
          ofs := 0
          res := .invalid
          cause := 0x04#5
          status := s.status ||| 0x04#7
          trace := s.trace ++ [.result (.fed .invalid)] })

/-- 42_codec_feed.md R124: FEED in state Length. -/
def Obligations.FeedInLength : Prop :=
  ∀ (s : State) (b : Byte), s.ofs = 2 →
    exec (.feed b) s = .next
      (if b = 0x06#8 then
        { s with
          rb := { s.rb with LENGTH := 0x06#8 }
          ofs := 3
          res := .incomplete
          cause := 0x00#5
          trace := s.trace ++ [.result (.fed .incomplete)] }
      else if b = 0x7E#8 then
        { s with
          rb := { s.rb with START := 0x7E#8 }
          ofs := 1
          res := .invalid
          cause := 0x18#5
          status := s.status ||| 0x18#7
          trace := s.trace ++ [.result (.fed .invalid)] }
      else
        { s with
          ofs := 0
          res := .invalid
          cause := 0x08#5
          status := s.status ||| 0x08#7
          trace := s.trace ++ [.result (.fed .invalid)] })

/-- 42_codec_feed.md R125: at offsets 3 to 8 every byte is stored at its offset, the markers too. -/
def Obligations.FeedInTheVariableFields : Prop :=
  ∀ (s : State) (b : Byte), 3 ≤ s.ofs.val → s.ofs.val ≤ 8 →
    ∃ (rb : ReplyBuffer) (next : Fin 10),
      rbRead rb s.ofs = b ∧ (∀ i : Fin 10, i ≠ s.ofs → rbRead rb i = rbRead s.rb i) ∧ next.val = s.ofs.val + 1 ∧
      exec (.feed b) s = .next
        { s with
          rb := rb
          ofs := next
          res := .incomplete
          cause := 0x00#5
          trace := s.trace ++ [.result (.fed .incomplete)] }

/-- 42_codec_feed.md R127 with R126 and R132: the tenth byte of a valid frame completes and latches it, and an untaken
frame in the latch is lost. -/
def Obligations.FeedCompletesAValidFrame : Prop :=
  ∀ s : State, s.ofs = 9 → s.checksumMatches →
    exec (.feed 0xEF#8) s = .next
      { s with
        rb := { s.rb with END := 0xEF#8 }
        ofs := 0
        res := .complete
        cause := 0x00#5
        status := if s.rdy then s.status ||| 0x40#7 else s.status
        last := { cmd := s.rb.CMD, fb := s.rb.FB, p1 := s.rb.P1, p2 := s.rb.P2 }
        rdy := true
        trace := s.trace ++
          [.result (.fed (.complete { cmd := s.rb.CMD, fb := s.rb.FB, p1 := s.rb.P1, p2 := s.rb.P2 }))] }

/-- 42_codec_feed.md R128 with R126: an invalid frame whose tenth byte is no start marker. -/
def Obligations.FeedRejectsAnInvalidFrame : Prop :=
  ∀ (s : State) (b : Byte), s.ofs = 9 → ¬(b = 0xEF#8 ∧ s.checksumMatches) → b ≠ 0x7E#8 →
    let c : BitVec 5 :=
      if b ≠ 0xEF#8 then (if s.checksumMatches then 0x02#5 else 0x03#5) else 0x01#5
    exec (.feed b) s = .next
      { s with
        rb := { s.rb with END := b }
        ofs := 0
        res := .invalid
        cause := c
        status := s.status ||| c.setWidth 7
        trace := s.trace ++ [.result (.fed .invalid)] }

/-- 42_codec_feed.md R130: a start marker in place of the end marker rejects the frame and opens a new one. -/
def Obligations.FeedResynchronisesAtTheEnd : Prop :=
  ∀ s : State, s.ofs = 9 →
    let c : BitVec 5 := if s.checksumMatches then 0x12#5 else 0x13#5
    exec (.feed 0x7E#8) s = .next
      { s with
        rb := { s.rb with END := 0x7E#8, START := 0x7E#8 }
        ofs := 1
        res := .invalid
        cause := c
        status := s.status ||| c.setWidth 7
        trace := s.trace ++ [.result (.fed .invalid)] }

/-- 30_encoding.md R88: what sets each bit of CAUSE, when CAUSE is not zero, and the combinations that occur. -/
def Obligations.CauseSaysWhyAFeedIsInvalid : Prop :=
  ∀ (s : State) (b : Byte),
    ∃ t, exec (.feed b) s = .next t ∧
      (t.cause.getLsbD 0 = true ↔ s.ofs = 9 ∧ ¬s.checksumMatches) ∧
      (t.cause.getLsbD 1 = true ↔ s.ofs = 9 ∧ b ≠ 0xEF#8) ∧
      (t.cause.getLsbD 2 = true ↔ s.ofs = 1 ∧ b ≠ 0xFF#8) ∧
      (t.cause.getLsbD 3 = true ↔ s.ofs = 2 ∧ b ≠ 0x06#8) ∧
      (t.cause.getLsbD 4 = true ↔ (s.ofs = 1 ∨ s.ofs = 2 ∨ s.ofs = 9) ∧ b = 0x7E#8) ∧
      (t.cause ≠ 0x00#5 ↔ t.res = .invalid) ∧
      (t.res = .invalid →
        t.cause ∈ [0x04#5, 0x14#5, 0x08#5, 0x18#5, 0x01#5, 0x02#5, 0x03#5, 0x12#5, 0x13#5])

/-- 42_codec_feed.md R122: what every FEED step writes besides RB and OFS; LOST is R132's. -/
def Obligations.EveryFeedReportsItsResult : Prop :=
  ∀ (s : State) (b : Byte),
    ∃ (t : State) (r : FeedResult),
      exec (.feed b) s = .next t ∧
      t = { s with
            rb := t.rb, ofs := t.ofs, last := t.last, rdy := t.rdy
            res := resOf r
            cause := t.cause
            status := (s.status ||| t.cause.setWidth 7) |||
              (if resOf r = .complete ∧ s.rdy = true then 0x40#7 else 0x00#7)
            trace := s.trace ++ [.result (.fed r)] } ∧
      (resOf r ≠ .invalid → t.cause = 0x00#5) ∧
      (resOf r ≠ .complete → t.last = s.last ∧ t.rdy = s.rdy)

/-- 42_codec_feed.md R129: a start marker restarts reconstruction exactly at the offsets 1, 2 and 9. -/
def Obligations.ResynchronisationOnlyAtConstantOffsets : Prop :=
  ∀ (s t : State), exec (.feed 0x7E#8) s = .next t →
    ((s.ofs = 1 ∨ s.ofs = 2 ∨ s.ofs = 9) ↔ t.res = .invalid) ∧
    (t.res = .invalid → t.cause.getLsbD 4 = true ∧ t.ofs = 1 ∧ t.rb.START = 0x7E#8 ∧ t.last = s.last ∧ t.rdy = s.rdy) ∧
    (3 ≤ s.ofs.val ∧ s.ofs.val ≤ 8 → t.ofs.val = s.ofs.val + 1)

/-- 42_codec_feed.md R135 (1), the acceptance invariant, with the constants that 10_state.md R41 puts in RB as premise. -/
def Obligations.OnlyValidFramesComplete : Prop :=
  ∀ (s t : State) (b : Byte), s.HeadInv → exec (.feed b) s = .next t → t.res = .complete →
    s.ofs = 9 ∧ b = 0xEF#8 ∧ s.rb.START = 0x7E#8 ∧ s.rb.VERSION = 0xFF#8 ∧ s.rb.LENGTH = 0x06#8 ∧
      s.rb.CKH.toNat * 256 + s.rb.CKL.toNat =
        65536 - (0xFF + 0x06 + s.rb.CMD.toNat + s.rb.FB.toNat + s.rb.P1.toNat + s.rb.P2.toNat) ∧
      t.last = { cmd := s.rb.CMD, fb := s.rb.FB, p1 := s.rb.P1, p2 := s.rb.P2 } ∧ t.rdy = true

/-- 41_codec_tx.md R105: from `OFS = 0`, the ten bytes ENC returns are nine times Incomplete and then Complete with the
originals, whatever the operands. -/
def Obligations.EncodedFrameIsReconstructed : Prop :=
  ∀ (s u : State) (cmd p1 p2 : Byte) (f : Frame), s.ofs = 0 →
    exec (.enc cmd p1 p2) s = .next u → u.trace = s.trace ++ [.result (.encoded f)] →
    ∃ t,
      performAll
        [.feed f.start, .feed f.version, .feed f.length, .feed f.command, .feed f.feedback, .feed f.param1,
         .feed f.param2, .feed f.ckHigh, .feed f.ckLow, .feed f.endMark] s = .next t ∧
      t.trace = s.trace ++ List.replicate 9 (.result (.fed .incomplete)) ++
        [.result (.fed (.complete { cmd := cmd, fb := 0x00#8, p1 := p1, p2 := p2 }))] ∧
      t.ofs = 0 ∧ t.rdy = true ∧ t.last = { cmd := cmd, fb := 0x00#8, p1 := p1, p2 := p2 }

/-- 42_codec_feed.md R135 (2): one flipped bit of a well-formed frame never lets its ten bytes complete, and at offsets
1 to 9 some byte of them is reported Invalid. -/
def Obligations.OneFlippedBitNeverCompletes : Prop :=
  ∀ (s : State) (f : FrameFields) (offset : Fin 10) (bit : Fin 8), s.ofs = 0 →
    ∃ (t : State) (results : List Emission),
      performAll
        (((frameBytes (frameOfFields f)).modify offset.val fun b => b ^^^ (1#8 <<< bit.val)).map .feed) s = .next t ∧
      t.trace = s.trace ++ results ∧ results.length = 10 ∧
      (∀ g : FrameFields, Emission.result (.fed (.complete g)) ∉ results) ∧
      (offset ≠ 0 → Emission.result (.fed .invalid) ∈ results)

/-! ## TAKE and CLRS -/

/-- 42_codec_feed.md R131: TAKE. -/
def Obligations.TakeReturnsTheLatchedFrame : Prop :=
  ∀ s : State,
    (s.rdy = true →
      exec .take s = .next { s with rdy := false, trace := s.trace ++ [.result (.taken (some s.last))] }) ∧
    (s.rdy = false → exec .take s = .next { s with trace := s.trace ++ [.result (.taken none)] })

/-- 42_codec_feed.md R133: CLRS writes STATUS and nothing else. -/
def Obligations.ClrsClearsTheStickyFlags : Prop :=
  ∀ s : State, exec .clrs s = .next { s with status := 0x00#7 }

/-! ## RXB and IDLE -/

/-- 43_ingest.md R150 with R152, `MODE = DRAIN`: the byte is stored at `N - REM` whatever stands there and wherever RC
is, REM and WT count it, and the milestones are raised over the new cursor. -/
def Obligations.RxbStoresCountsAndNotifies : Prop :=
  ∀ (s : State) (b : Byte), s.cfg.mode = .drain → s.cfg.wf → 1 ≤ s.rem → s.rem ≤ s.cfg.capacity →
    Memory.wf s.buf = true →
    let n := s.cfg.capacity
    let rem' := if s.rem = 1 then n else s.rem - 1
    ∃ buf' : Memory,
      (∀ i, memGet buf' i = if i = n - s.rem then b else s.bufAt i) ∧
      exec (.rxb b) s = .next
        { s with
          buf := buf'
          rem := rem'
          wt := s.wt + 1
          pend := { half := s.pend.half || decide ((n - rem') % n = n / 2)
                    full := s.pend.full || decide ((n - rem') % n = 0)
                    idle := s.pend.idle } }

/-- 43_ingest.md R151, `MODE = PUSH`: RXB is FEED, BUF, REM, RC and PEND are not used, and DRAIN feeds nothing. -/
def Obligations.RxbInPushModeFeeds : Prop :=
  ∀ (s : State) (b : Byte), s.cfg.mode = .push →
    ∃ t, exec (.rxb b) s = .next t ∧ exec (.feed b) s = .next t ∧
      t.buf = s.buf ∧ t.rem = s.rem ∧ t.rc = s.rc ∧ t.pend = s.pend ∧ t.wt = s.wt ∧ t.rt = s.rt ∧
      exec .drain s = .next s

/-- 43_ingest.md R153: IDLE writes its flag and nothing else, in either mode. -/
def Obligations.IdleSetsItsFlag : Prop :=
  ∀ s : State, exec .idle s = .next { s with pend := { s.pend with idle := true } }

/-! ## DRAIN and SVC -/

/-- 43_ingest.md R158: a drain with nothing new changes no state at all. -/
def Obligations.DrainWithNothingNewChangesNothing : Prop :=
  ∀ s : State, s.wp = s.rc → exec .drain s = .next s

/-- 43_ingest.md R154, R155, with no step of another agent inside the drain: the bytes from RC to the snapshot are fed
in order, in two linear runs when the cursor wrapped, and then RC is the snapshot and RT has counted them. -/
def Obligations.DrainFeedsTheUnreadBytesInOrder : Prop :=
  ∀ s : State, s.cfg.mode = .drain → s.between = [] → s.cfg.wf → 1 ≤ s.rem → s.rem ≤ s.cfg.capacity →
    let n := s.cfg.capacity
    let w := (n - s.rem) % n
    let bytes : List Byte :=
      if w > s.rc then (List.range (w - s.rc)).map fun k => s.bufAt (s.rc + k)
      else if w < s.rc then
        ((List.range (n - s.rc)).map fun k => s.bufAt (s.rc + k)) ++ (List.range w).map fun k => s.bufAt k
      else []
    ∃ u, performAll (bytes.map .feed) s = .next u ∧
      exec .drain s = .next { u with rc := w, rt := s.rt + bytes.length }

/-- 43_ingest.md R154, R165, with 20_memory.md R60, R62: whatever other agents do inside it and whether or not it is
overrun, a drain completes, feeds `(W - RC) mod N` bytes, fewer than `N`, and leaves RC at its snapshot. Index by index
(`before j` is the state before the `j`-th point), the operations that fall there happen, each with its own meaning, and then
FEED of the byte that stands in BUF at that instant; after the last read there is one more point, and then `RC <- W`. The
slots that hold the other agents' operations are the model's (log 2). -/
def Obligations.DrainFeedsAllUnreadBytesUnderInterleaving : Prop :=
  ∀ s : State, s.Inv → s.cfg.mode = .drain →
    ∃ t, exec .drain s = .next t ∧ t.rc = s.wp ∧ t.rt = s.rt + s.unread ∧ s.unread < s.cfg.capacity ∧
      t.cfg = s.cfg ∧ t.schedule = s.schedule ∧
      (s.wp = s.rc → t = s) ∧
      (s.wp ≠ s.rc →
        ∃ (before : Nat → State) (last : State),
          before 0 = s ∧
          (∀ j, j < s.unread →
            ∃ u, performAll (s.operationsAt j) { before j with between := s.between.drop (j + 1) } = .next u ∧
              exec (.feed (u.bufAt ((s.rc + j) % s.cfg.capacity))) { u with rt := u.rt + 1 } =
                .next (before (j + 1))) ∧
          performAll (s.operationsAt s.unread)
            { before s.unread with between := s.between.drop (s.unread + 1) } = .next last ∧
          t = { last with rc := s.wp })

/-- 43_ingest.md R156, R157, with no step of another agent inside the service: PEND is cleared, the buffer is drained,
and then, if IDLE was pending, OFS is reset and a partial frame recorded. -/
def Obligations.SvcDrainsThenResetsOnLineIdle : Prop :=
  ∀ s : State, s.between = [] → s.cfg.wf → (s.pend.half = true ∨ s.pend.full = true ∨ s.pend.idle = true) →
    ∃ u, exec .drain { s with pend := { half := false, full := false, idle := false } } = .next u ∧
      exec .svc s = .next
        (if s.pend.idle then
          { u with ofs := 0, status := if u.ofs.val ≠ 0 then u.status ||| 0x20#7 else u.status }
        else u)

/-- 43_ingest.md R156 with 60_exceptions.md R223, R224: an enabled SVC completes whatever other agents do inside it, and
after the service of a line idle the reconstructor is in state Idle. It clears PEND; the operations that fall there happen,
each with its own meaning; it drains, as DRAIN does in that state; the operations that fall there happen; and then, if IDLE
was pending at its start, OFS is reset and a partial frame recorded. The slots that hold the other agents' operations are
the model's (log 2). -/
def Obligations.SvcCompletesUnderInterleaving : Prop :=
  ∀ s : State, s.Inv → pendAny s.pend = true →
    ∃ t, exec .svc s = .next t ∧ (s.pend.idle = true → t.ofs = 0) ∧ t.cfg = s.cfg ∧ t.schedule = s.schedule ∧
      ∃ u v w,
        performAll (s.operationsAt 0)
          { s with pend := { half := false, full := false, idle := false }, between := s.between.drop 1 } = .next u ∧
        exec .drain u = .next v ∧
        performAll (v.operationsAt 0) { v with between := v.between.drop 1 } = .next w ∧
        t = if s.pend.idle then
            { w with ofs := 0, status := if w.ofs.val ≠ 0 then w.status ||| 0x20#7 else w.status }
          else w

/-- 43_ingest.md R164: `half_full` and `full` have the same service, and it does not reset OFS: it is a drain. -/
def Obligations.MilestonesHaveTheSameService : Prop :=
  ∀ s : State, s.between = [] → s.cfg.wf →
    ∃ t, exec .svc { s with pend := { half := true, full := false, idle := false } } = .next t ∧
      exec .svc { s with pend := { half := false, full := true, idle := false } } = .next t ∧
      exec .svc { s with pend := { half := true, full := true, idle := false } } = .next t ∧
      exec .drain { s with pend := { half := false, full := false, idle := false } } = .next t

/-- The MODEL's choice (log 11): 43_ingest.md R156 gives SVC no step where no flag of PEND is set; its slot passes with no
effect. -/
def Obligations.SvcWithNothingPendingPasses : Prop :=
  ∀ s : State, s.pend = { half := false, full := false, idle := false } → exec .svc s = .next s

/-- 43_ingest.md R161, 20_memory.md R61 (c): while bytes arrive inside a drain and the no-overrun condition holds at each
of its points (`RT` counting each byte as it is read), the drain is the drain taken at its snapshot, followed by the
arrivals. `slots` are the bytes that arrive at the points, one list per read and one after the last. -/
def Obligations.DrainIsAtomicWithoutOverrun : Prop :=
  ∀ (s : State) (slots : List (List Byte)) (rest : List (List Intruder)),
    s.Inv → s.cfg.mode = .drain → s.wp ≠ s.rc →
    s.between = slots.map (fun slot => slot.map Intruder.rxb) ++ rest → slots.length = s.unread + 1 →
    (∀ j, j ≤ s.unread →
      s.wt + ((slots.take (j + 1)).map List.length).sum ≤ s.rt + j + (s.cfg.capacity - 1)) →
    ∃ u v, exec .drain { s with between := [] } = .next u ∧
      performAll (slots.flatten.map .rxb) u = .next v ∧
      exec .drain s = .next { v with between := rest }

/-- 43_ingest.md R163, R151: at most `N - 1` bytes received into an empty buffer and then drained are fed to the
reconstructor exactly as PUSH mode feeds them, none lost, none twice. -/
def Obligations.BufferedBytesAreFedAsInPushMode : Prop :=
  ∀ (s : State) (bytes : List Byte),
    s.Inv → s.cfg.mode = .drain → s.between = [] → s.wp = s.rc → bytes.length + 1 ≤ s.cfg.capacity →
    ∃ t v, performAll (bytes.map .rxb ++ [.drain]) s = .next t ∧
      performAll (bytes.map .rxb) { s with cfg := { s.cfg with mode := .push } } = .next v ∧
      t.ofs = v.ofs ∧ t.rb = v.rb ∧ t.res = v.res ∧ t.cause = v.cause ∧ t.status = v.status ∧ t.last = v.last ∧
      t.rdy = v.rdy ∧ t.trace = v.trace ∧ t.wp = t.rc

/-- 20_memory.md R62 (a), 70_reset_and_hazards.md R245: `N` unread bytes look like none, and nothing records the loss. -/
def Obligations.CapacityManyUnreadBytesLookLikeNone : Prop :=
  ∀ (s : State) (bytes : List Byte),
    s.Inv → s.cfg.mode = .drain → s.wp = s.rc → bytes.length = s.cfg.capacity →
    ∃ t, performAll (bytes.map .rxb) s = .next t ∧ exec .drain t = .next t ∧
      t.ofs = s.ofs ∧ t.res = s.res ∧ t.cause = s.cause ∧ t.status = s.status ∧ t.trace = s.trace ∧ t.rdy = s.rdy

/-! ## The Coordinator -/

/-- 44_coordinator.md R180, R186: SEND. -/
def Obligations.SendTransmitsOrIsBusy : Prop :=
  ∀ (cmd p1 p2 : Byte) (s : State), AnswersSend cmd p1 p2 s (exec (.send cmd p1 p2) s)

/-- 44_coordinator.md R181, R186, R187: REQ, with every timeout. -/
def Obligations.ReqCreatesThePendingCommandOrIsBusy : Prop :=
  ∀ (cmd p1 p2 : Byte) (timeout : Nat) (s : State),
    AnswersRequest cmd p1 p2 timeout s (exec (.req cmd p1 p2 timeout) s)

/-- 44_coordinator.md R182, R184: POLL's four answers, a matching frame before an expired count. -/
def Obligations.PollAnswersByTheLatchAndTheCount : Prop :=
  ∀ s : State,
    exec .poll s = .next
      (if s.co = .idle then { s with trace := s.trace ++ [.result .notWaiting] }
      else if s.rdy = true ∧ s.last.cmd = s.expect then
        { s with
          rdy := false
          co := .idle
          trace := s.trace ++ [.result (.reply s.last.p1 s.last.p2)] }
      else if s.cnt = 0 then
        { s with
          rdy := false
          co := .idle
          ofs := 0
          trace := s.trace ++ [.result .timedOut] }
      else { s with rdy := false, trace := s.trace ++ [.result .waiting] })

/-- 44_coordinator.md R183: TICK. -/
def Obligations.TickCountsDown : Prop :=
  ∀ s : State,
    exec .tick s = .next (if s.co = .awaitingReply ∧ s.cnt > 0 then { s with cnt := s.cnt - 1 } else s)

/-- 44_coordinator.md R196: after a REQ and `k` ticks with no frame latched, POLL answers TimedOut from the
`timeout`-th tick on and Waiting before it. -/
def Obligations.TimeoutComesAtTheTimeoutthTick : Prop :=
  ∀ (s : State) (cmd p1 p2 : Byte) (timeout k : Nat), s.co = .idle →
    ∃ t u, performAll (.req cmd p1 p2 timeout :: List.replicate k .tick) s = .next t ∧
      exec .poll t = .next u ∧
      (k < timeout → u.trace = t.trace ++ [.result .waiting] ∧ u.co = .awaitingReply) ∧
      (timeout ≤ k → u.trace = t.trace ++ [.result .timedOut] ∧ u.co = .idle ∧ u.ofs = 0 ∧ u.rdy = false)

/-- 44_coordinator.md R197: after a POLL that timed out, a new request is accepted, and a well-formed matching reply that
arrives in full after it is returned. In `MODE = DRAIN`, with nothing unread from before and no other agent's step inside
the drains, the reply arrives in bursts, each of fewer than `N` bytes and followed by a drain, however it is cut. -/
def Obligations.RequestAfterATimeoutIsAnswered : Prop :=
  ∀ (s t : State) (cmd q1 q2 fb p1 p2 : Byte) (timeout : Nat), s.co = .awaitingReply →
    exec .poll s = .next t → t.co = .idle → t.trace = s.trace ++ [.result .timedOut] →
    let f := frameOfFields { cmd := cmd, fb := fb, p1 := p1, p2 := p2 }
    ∃ u, exec (.req cmd q1 q2 timeout) t = .next u ∧ u.co = .awaitingReply ∧
      (s.cfg.mode = .push →
        ∃ v, performAll ((frameBytes f).map .rxb ++ [.poll]) u = .next v ∧
          v.trace.getLast? = some (.result (.reply p1 p2)) ∧ v.co = .idle ∧ v.rdy = false) ∧
      (s.cfg.mode = .drain → s.Inv → s.between = [] → s.wp = s.rc →
        ∀ bursts : List (List Byte), bursts.flatten = frameBytes f →
          (∀ burst ∈ bursts, burst.length < s.cfg.capacity) →
          ∃ v, performAll ((bursts.flatMap fun burst => burst.map Instr.rxb ++ [.drain]) ++ [.poll]) u = .next v ∧
            v.trace.getLast? = some (.result (.reply p1 p2)) ∧ v.co = .idle ∧ v.rdy = false)

/-! ## The wire words -/

/-- 44_coordinator.md R188 to R193: six commands are issued with SEND, under their codes of 30_encoding.md R81. That a word
which is not well formed runs too, as SEND of its code and parameters, whatever feedback byte and checksum it carries, is
the MODEL's choice (log 12). -/
def Obligations.PlaybackCommandsAreSent : Prop :=
  ∀ (fb p1 p2 h l : Byte) (s : State),
    AnswersSend 0x3F#8 p1 p2 s (exec (.initSource fb p1 p2 h l) s) ∧
    AnswersSend 0x06#8 p1 p2 s (exec (.setVolume fb p1 p2 h l) s) ∧
    AnswersSend 0x0E#8 p1 p2 s (exec (.pause fb p1 p2 h l) s) ∧
    AnswersSend 0x0D#8 p1 p2 s (exec (.resume fb p1 p2 h l) s) ∧
    AnswersSend 0x0F#8 p1 p2 s (exec (.playFolder fb p1 p2 h l) s) ∧
    AnswersSend 0x17#8 p1 p2 s (exec (.loopFolder fb p1 p2 h l) s)

/-- 44_coordinator.md R194: the query is issued with REQ, and its reply's data pair is the count. That a word which is not
well formed runs too, as REQ of its code, its parameters and its timeout, whatever first parameter, feedback byte and
checksum it carries, is the MODEL's choice (log 12). -/
def Obligations.FolderCountIsRequested : Prop :=
  (∀ (fb p1 folder h l : Byte) (timeout : Nat) (s : State),
    AnswersRequest 0x4E#8 p1 folder timeout s (exec (.queryFolderCount fb p1 folder h l timeout) s)) ∧
  ∀ f : FrameFields, (replyData f).toNat = f.p1.toNat * 256 + f.p2.toNat

/-- 30_encoding.md R73, R80, 44_coordinator.md R188 to R194: where the word of a command is well formed and no request is
outstanding, the ten bytes the host puts on the line are the word's own. -/
def Obligations.WellFormedCommandWordIsWhatGoesOut : Prop :=
  ∀ (i : Instr) (s t : State), i.wellFormed = true → s.co = .idle →
    (∃ fb p1 p2 h l, i = .initSource fb p1 p2 h l ∨ i = .setVolume fb p1 p2 h l ∨ i = .pause fb p1 p2 h l ∨
      i = .resume fb p1 p2 h l ∨ i = .playFolder fb p1 p2 h l ∨ i = .loopFolder fb p1 p2 h l ∨
      ∃ timeout, i = .queryFolderCount fb p1 p2 h l timeout) →
    exec i s = .next t →
    ∃ r, t.trace = s.trace ++ ((encode i).take 10).map .tx ++ [.result r] ∧ (r = .sent ∨ r = .issued)

/-- The MODEL's choice (log 14): a word that stands for a frame that arrives is ten RXB in a row, with no other agent's step
between them. Their order is that of 20_memory.md R51, R65. -/
def Obligations.FrameArrivesByteByByte : Prop :=
  ∀ (cmd fb p1 p2 h l : Byte) (s : State), s.cfg.wf →
    ∃ t, exec (.frame .inward cmd fb p1 p2 h l) s = .next t ∧
      performAll
        [.rxb 0x7E#8, .rxb 0xFF#8, .rxb 0x06#8, .rxb cmd, .rxb fb, .rxb p1, .rxb p2, .rxb h, .rxb l, .rxb 0xEF#8] s =
        .next t

/-- 41_codec_tx.md R101 with 30_encoding.md R73: a frame sent is its ten bytes in offset order. That ten bytes with a wrong
checksum, which are no Frame, go out as given too is the MODEL's choice (log 13). -/
def Obligations.FrameLeavesByteByByte : Prop :=
  ∀ (cmd fb p1 p2 h l : Byte) (s : State),
    exec (.frame .outward cmd fb p1 p2 h l) s = .next
      { s with
        trace := s.trace ++
          [.tx 0x7E#8, .tx 0xFF#8, .tx 0x06#8, .tx cmd, .tx fb, .tx p1, .tx p2, .tx h, .tx l, .tx 0xEF#8] }

/-- 30_encoding.md R83, R84, 42_codec_feed.md R127: a frame that arrives in `MODE = PUSH` with a right checksum completes
from state Idle, whatever its command, feedback and parameter bytes, markers included. -/
def Obligations.EveryWellFormedFrameIsAccepted : Prop :=
  ∀ (cmd fb p1 p2 h l : Byte) (s : State), s.cfg.mode = .push → s.ofs = 0 →
    h.toNat * 256 + l.toNat = 65536 - (0xFF + 0x06 + cmd.toNat + fb.toNat + p1.toNat + p2.toNat) →
    ∃ t, exec (.frame .inward cmd fb p1 p2 h l) s = .next t ∧
      t.trace = s.trace ++ List.replicate 9 (.result (.fed .incomplete)) ++
        [.result (.fed (.complete { cmd := cmd, fb := fb, p1 := p1, p2 := p2 }))] ∧
      t.ofs = 0 ∧ t.rdy = true ∧ t.last = { cmd := cmd, fb := fb, p1 := p1, p2 := p2 } ∧
      t.buf = s.buf ∧ t.rem = s.rem ∧ t.rc = s.rc ∧ t.pend = s.pend ∧ t.co = s.co ∧ t.expect = s.expect ∧ t.cnt = s.cnt

/-! ## The whole machine -/

/-- 60_exceptions.md R216, R210: no operation and no word stops the block. It rests on choices of the MODEL: that TX, and so
SEND, REQ and the commands, always ends is log 10, the assumption of 41_codec_tx.md R103 and 70_reset_and_hazards.md R255;
that SVC completes with nothing pending is log 11; that words and frames which are not well formed run is logs 12 and 13;
that RST runs from every state is log 15. -/
def Obligations.NoOperationStopsTheBlock : Prop :=
  ∀ (i : Instr) (s : State), s.cfg.wf → ∃ t, exec i s = .next t

/-- 10_state.md R33: no operation changes MODE (nor the capacity). -/
def Obligations.NoStepChangesTheConfiguration : Prop :=
  ∀ s t : State, step s = .next t → t.cfg = s.cfg

/-- 20_memory.md R63, 10_state.md R21, R27: only the receive engine writes BUF, REM and WT; RST writes the last two.
Inside a drain that no other agent's step falls into, they stay. That RST leaves BUF as it was, where 10_state.md R42 leaves
its contents unspecified, is the MODEL's reading (log 9). -/
def Obligations.OnlyTheReceiveEngineWritesTheBuffer : Prop :=
  ∀ (i : Instr) (s t : State), exec i s = .next t → receives i = false → s.between = [] →
    t.buf = s.buf ∧ (i ≠ .rst → t.rem = s.rem ∧ t.wt = s.wt)

/-- 10_state.md R26: only the drain engine writes RC and counts RT, besides RST. -/
def Obligations.OnlyTheDrainEngineWritesTheReadCursor : Prop :=
  ∀ (i : Instr) (s t : State), exec i s = .next t → drains i = false → i ≠ .rst → t.rc = s.rc ∧ t.rt = s.rt

/-- 10_state.md R30: RES and CAUSE are written by FEED and by nothing else, besides RST: by no operation that feeds no
byte. -/
def Obligations.OnlyFeedWritesTheResult : Prop :=
  ∀ (i : Instr) (s t : State), exec i s = .next t → receives i = false → drains i = false → i ≠ .rst →
    (∀ b, i ≠ .feed b) → t.res = s.res ∧ t.cause = s.cause ∧ t.rb = s.rb

/-- 10_state.md R31: a flag of STATUS, once set, stays set until CLRS or reset, whatever falls inside a drain but CLRS. -/
def Obligations.StatusFlagsAreSticky : Prop :=
  ∀ (i : Instr) (s t : State), exec i s = .next t → i ≠ .clrs → i ≠ .rst →
    (∀ slot ∈ s.between, Intruder.clrs ∉ slot) → s.status &&& t.status = s.status

/-- 10_state.md R37, the Coordinator's row: CO, EXPECT and CNT are written by no operation of the block's own agents. -/
def Obligations.BlockLeavesTheCoordinatorAlone : Prop :=
  ∀ (i : Instr) (s t : State), exec i s = .next t → s.between = [] →
    (receives i = true ∨ drains i = true ∨ i = .idle ∨ i = .take ∨ i = .clrs ∨ (∃ b, i = .feed b)) →
    t.co = s.co ∧ t.expect = s.expect ∧ t.cnt = s.cnt

/-- The invariant holds right after reset, for every legal configuration (10_state.md R41, R42). -/
def Obligations.ResetSatisfiesTheInvariant : Prop :=
  (∀ c : Config, c.wf → (State.resetWith c).Inv) ∧ State.reset.Inv

/-- 10_state.md R41, R36, with BUF in canonical form: every step from a state of the invariant, whatever is scheduled and
whatever falls inside a drain, leaves a state of the invariant. An RST inside a run is among the steps: the MODEL's choice
(log 15). -/
def Obligations.EveryStepKeepsTheInvariant : Prop :=
  ∀ s t : State, s.Inv → step s = .next t → t.Inv

/-! ## Decoding and fetching -/

/-- Decoding the bytes of an instruction gives it back, with the bytes after it left over, for every operand of every
instruction; no two instructions share their bytes (30_encoding.md R73, R81, R86, in the model's layout, logs 1 and 5). -/
def Obligations.DecodeOfEncodeIsTheInstruction : Prop :=
  ∀ (i : Instr) (rest : List Byte), decode (encode i ++ rest) = .ok (i, rest)

/-- A step runs the operation at the head of the schedule and moves past its bytes (10_state.md R40, R43; log 1). A FEED by
itself is a step in `MODE = PUSH` only (log 6); what it is otherwise, `RcnNeverStepsOnItsOwn` says. -/
def Obligations.StepRunsTheDecodedOperation : Prop :=
  ∀ (s : State) (i : Instr) (rest : List Byte), decode s.schedule = .ok (i, rest) →
    (∀ b, i = .feed b → s.cfg.mode = .push) → step s = exec i { s with schedule := rest }

/-- 10_state.md R40, 42_codec_feed.md R120: RCN never steps on its own. A FEED that the schedule names by itself is no step
in `MODE = DRAIN`, and in `MODE = PUSH` it is the RXB that brings its byte (the schedule, the refusal and this reading of a
scheduled FEED are the MODEL's, logs 1 and 6). And no step but a DRAIN, an SVC, or, in `MODE = PUSH`, an arrival of bytes
feeds the reconstructor: RB, RES and CAUSE stay, but for an RST, and no FEED result is emitted. -/
def Obligations.RcnNeverStepsOnItsOwn : Prop :=
  ∀ (s : State) (i : Instr) (rest : List Byte), decode s.schedule = .ok (i, rest) →
    (∀ b, i = .feed b →
      (s.cfg.mode = .drain → step s = .refused (.notEnabled i)) ∧
      (s.cfg.mode = .push → step s = exec (.rxb b) { s with schedule := rest })) ∧
    (drains i = false → i ≠ .rst → (s.cfg.mode = .push → receives i = false ∧ ∀ b, i ≠ .feed b) →
      ∀ t, step s = .next t →
        t.rb = s.rb ∧ t.res = s.res ∧ t.cause = s.cause ∧
          ∃ new, t.trace = s.trace ++ new ∧ ∀ r : FeedResult, Emission.result (.fed r) ∉ new)

/-- With nothing scheduled the machine rests (70_reset_and_hazards.md R256); bytes that encode no operation, such as the
unused numbers E and F of 30_encoding.md R86, are refused: the model's choice, log 1. -/
def Obligations.StepRestsOrRefusesWithoutAnOperation : Prop :=
  ∀ s : State, (s.schedule = [] → step s = .next s) ∧
    (∀ e, s.schedule ≠ [] → decode s.schedule = .error e → step s = .refused (.undecodable e)) ∧
    (∀ (b : Byte) (rest : List Byte), s.schedule = b :: rest → 0xE ≤ b.toNat → b ≠ 0x7E#8 →
      step s = .refused (.undecodable (.reservedOp b)))

/-- A few words of 30_encoding.md R73 and R86, written out bit by bit, decode to what they stand for (the operand layout
is the model's, logs 1 and 5). -/
def Obligations.SampleWordsDecode : Prop :=
  decodeTableWord 8 0b00000110 = some (.rxb 0x00#8) ∧
  decodeTableWord 8 0b00001101 = some .tick ∧
  decodeTableWord 80 0x7EFF060E000000FEEDEF = some (.pause 0x00#8 0x00#8 0x00#8 0xFE#8 0xED#8) ∧
  decodeTableWord 80 0x7EFF0641010000FEB9EF =
    some (.frame .inward 0x41#8 0x01#8 0x00#8 0x00#8 0xFE#8 0xB9#8)
end

