-- ==== Sys2Proof/Laws/Memory.lean ====
section
/-!
SUPPORT. BUF as a memory: reads after writes, and the canonical form that every operation keeps.
-/

namespace Sys2Proof.Machine

@[simp] theorem memGet_nil (i : Nat) : memGet [] i = bufFill := rfl

theorem memGet_cons (i j : Nat) (b : Byte) (m : Memory) :
    memGet ((j, b) :: m) i = if i = j then b else memGet m i := rfl

/-- An index below the bound of the canonical form is not listed. -/
theorem memGet_of_lt {m : Memory} {lo i : Nat} (h : memWfFrom lo m = true) (hi : i < lo) : memGet m i = bufFill := by
  induction m generalizing lo with
  | nil => rfl
  | cons c m ih =>
    obtain ⟨j, b⟩ := c
    simp only [memWfFrom, Bool.and_eq_true, decide_eq_true_eq] at h
    rw [memGet_cons, if_neg (by omega)]
    exact ih h.2 (by omega)

/-- The canonical form may be read with a lower bound. -/
theorem memWfFrom_mono {m : Memory} {lo lo' : Nat} (h : memWfFrom lo m = true) (hle : lo' ≤ lo) :
    memWfFrom lo' m = true := by
  cases m with
  | nil => rfl
  | cons c m =>
    obtain ⟨j, b⟩ := c
    simp only [memWfFrom, Bool.and_eq_true, decide_eq_true_eq] at h ⊢
    exact ⟨⟨by omega, h.1.2⟩, h.2⟩

theorem memCons_wf {m : Memory} {lo i : Nat} (b : Byte) (hi : lo ≤ i) (h : memWfFrom (i + 1) m = true) :
    memWfFrom lo (memCons i b m) = true := by
  unfold memCons
  split
  · exact memWfFrom_mono h (by omega)
  · next hb => simp [memWfFrom, hi, hb, h]

theorem memGet_memCons {m : Memory} {i k : Nat} (b : Byte) (h : memWfFrom (i + 1) m = true) :
    memGet (memCons i b m) k = if k = i then b else memGet m k := by
  unfold memCons
  split
  · next hb =>
    split
    · next hk => rw [hk, hb]; exact memGet_of_lt h (by omega)
    · rfl
  · exact memGet_cons k i b m

/-- A write keeps the canonical form. -/
theorem memSet_wfFrom {m : Memory} {lo : Nat} (i : Nat) (b : Byte) (hi : lo ≤ i) (h : memWfFrom lo m = true) :
    memWfFrom lo (memSet m i b) = true := by
  induction m generalizing lo with
  | nil => exact memCons_wf b hi rfl
  | cons c m ih =>
    obtain ⟨j, d⟩ := c
    simp only [memWfFrom, Bool.and_eq_true, decide_eq_true_eq] at h
    unfold memSet
    split
    · next hlt =>
      refine memCons_wf b hi ?_
      simp only [memWfFrom, Bool.and_eq_true, decide_eq_true_eq]
      exact ⟨⟨by omega, h.1.2⟩, h.2⟩
    · split
      · next _ heq => subst heq; exact memCons_wf b hi h.2
      · next hlt hne =>
        simp only [memWfFrom, Bool.and_eq_true, decide_eq_true_eq]
        exact ⟨h.1, ih (by omega) h.2⟩

/-- A write keeps the canonical form of a memory. -/
theorem memSet_wf {m : Memory} (i : Nat) (b : Byte) (h : Memory.wf m = true) : Memory.wf (memSet m i b) = true :=
  memSet_wfFrom i b (Nat.zero_le i) h

/-- A read after a write: the written byte at its index, what stood before at every other. -/
theorem memGet_memSet {m : Memory} {lo : Nat} (i k : Nat) (b : Byte) (h : memWfFrom lo m = true) :
    memGet (memSet m i b) k = if k = i then b else memGet m k := by
  induction m generalizing lo with
  | nil => exact memGet_memCons b rfl
  | cons c m ih =>
    obtain ⟨j, d⟩ := c
    simp only [memWfFrom, Bool.and_eq_true, decide_eq_true_eq] at h
    unfold memSet
    split
    · next hlt =>
      refine memGet_memCons b ?_
      simp only [memWfFrom, Bool.and_eq_true, decide_eq_true_eq]
      exact ⟨⟨by omega, h.1.2⟩, h.2⟩
    · split
      · next _ heq =>
        subst heq
        rw [memGet_memCons b h.2, memGet_cons]
        split <;> simp_all
      · next hlt hne =>
        rw [memGet_cons, memGet_cons, ih h.2]
        split_ifs with h1 h2 <;> first | rfl | omega

/-- The indices a write lists are those listed before and the written one. -/
theorem memSet_mem {m : Memory} {i : Nat} {b : Byte} {c : Host.Cell} (h : c ∈ memSet m i b) : c ∈ m ∨ c = (i, b) := by
  induction m with
  | nil =>
    unfold memSet memCons at h
    split at h <;> simp_all
  | cons e m ih =>
    obtain ⟨j, d⟩ := e
    unfold memSet memCons at h
    split_ifs at h <;> simp only [List.mem_cons] at h ⊢ <;> tauto

end Sys2Proof.Machine
end

