-- ==== Sys2Proof/Laws/State.lean ====
section
/-!
SUPPORT. The small lemmas of the state: what each update leaves in each field, so that no proof unfolds one.
-/

namespace Sys2Proof.Machine

/-! ## emitResult -/

@[simp] theorem emitResult_cfg (r : OpResult) (s : State) : (emitResult r s).cfg = s.cfg := rfl
@[simp] theorem emitResult_buf (r : OpResult) (s : State) : (emitResult r s).buf = s.buf := rfl
@[simp] theorem emitResult_rb (r : OpResult) (s : State) : (emitResult r s).rb = s.rb := rfl
@[simp] theorem emitResult_ofs (r : OpResult) (s : State) : (emitResult r s).ofs = s.ofs := rfl
@[simp] theorem emitResult_rc (r : OpResult) (s : State) : (emitResult r s).rc = s.rc := rfl
@[simp] theorem emitResult_rem (r : OpResult) (s : State) : (emitResult r s).rem = s.rem := rfl
@[simp] theorem emitResult_pend (r : OpResult) (s : State) : (emitResult r s).pend = s.pend := rfl
@[simp] theorem emitResult_res (r : OpResult) (s : State) : (emitResult r s).res = s.res := rfl
@[simp] theorem emitResult_cause (r : OpResult) (s : State) : (emitResult r s).cause = s.cause := rfl
@[simp] theorem emitResult_status (r : OpResult) (s : State) : (emitResult r s).status = s.status := rfl
@[simp] theorem emitResult_last (r : OpResult) (s : State) : (emitResult r s).last = s.last := rfl
@[simp] theorem emitResult_rdy (r : OpResult) (s : State) : (emitResult r s).rdy = s.rdy := rfl
@[simp] theorem emitResult_co (r : OpResult) (s : State) : (emitResult r s).co = s.co := rfl
@[simp] theorem emitResult_expect (r : OpResult) (s : State) : (emitResult r s).expect = s.expect := rfl
@[simp] theorem emitResult_cnt (r : OpResult) (s : State) : (emitResult r s).cnt = s.cnt := rfl
@[simp] theorem emitResult_wt (r : OpResult) (s : State) : (emitResult r s).wt = s.wt := rfl
@[simp] theorem emitResult_rt (r : OpResult) (s : State) : (emitResult r s).rt = s.rt := rfl
@[simp] theorem emitResult_trace (r : OpResult) (s : State) : (emitResult r s).trace = s.trace ++ [.result r] := rfl
@[simp] theorem emitResult_schedule (r : OpResult) (s : State) : (emitResult r s).schedule = s.schedule := rfl
@[simp] theorem emitResult_between (r : OpResult) (s : State) : (emitResult r s).between = s.between := rfl

/-! ## transmit -/

@[simp] theorem transmit_cfg (f : Frame) (s : State) : (transmit f s).cfg = s.cfg := rfl
@[simp] theorem transmit_buf (f : Frame) (s : State) : (transmit f s).buf = s.buf := rfl
@[simp] theorem transmit_rb (f : Frame) (s : State) : (transmit f s).rb = s.rb := rfl
@[simp] theorem transmit_ofs (f : Frame) (s : State) : (transmit f s).ofs = s.ofs := rfl
@[simp] theorem transmit_rc (f : Frame) (s : State) : (transmit f s).rc = s.rc := rfl
@[simp] theorem transmit_rem (f : Frame) (s : State) : (transmit f s).rem = s.rem := rfl
@[simp] theorem transmit_pend (f : Frame) (s : State) : (transmit f s).pend = s.pend := rfl
@[simp] theorem transmit_res (f : Frame) (s : State) : (transmit f s).res = s.res := rfl
@[simp] theorem transmit_cause (f : Frame) (s : State) : (transmit f s).cause = s.cause := rfl
@[simp] theorem transmit_status (f : Frame) (s : State) : (transmit f s).status = s.status := rfl
@[simp] theorem transmit_last (f : Frame) (s : State) : (transmit f s).last = s.last := rfl
@[simp] theorem transmit_rdy (f : Frame) (s : State) : (transmit f s).rdy = s.rdy := rfl
@[simp] theorem transmit_co (f : Frame) (s : State) : (transmit f s).co = s.co := rfl
@[simp] theorem transmit_expect (f : Frame) (s : State) : (transmit f s).expect = s.expect := rfl
@[simp] theorem transmit_cnt (f : Frame) (s : State) : (transmit f s).cnt = s.cnt := rfl
@[simp] theorem transmit_wt (f : Frame) (s : State) : (transmit f s).wt = s.wt := rfl
@[simp] theorem transmit_rt (f : Frame) (s : State) : (transmit f s).rt = s.rt := rfl
@[simp] theorem transmit_trace (f : Frame) (s : State) : (transmit f s).trace = s.trace ++ (frameBytes f).map .tx := rfl
@[simp] theorem transmit_schedule (f : Frame) (s : State) : (transmit f s).schedule = s.schedule := rfl
@[simp] theorem transmit_between (f : Frame) (s : State) : (transmit f s).between = s.between := rfl

/-! ## report -/

@[simp] theorem report_cfg (r : FeedResult) (c : BitVec 5) (s : State) : (report r c s).cfg = s.cfg := rfl
@[simp] theorem report_buf (r : FeedResult) (c : BitVec 5) (s : State) : (report r c s).buf = s.buf := rfl
@[simp] theorem report_rb (r : FeedResult) (c : BitVec 5) (s : State) : (report r c s).rb = s.rb := rfl
@[simp] theorem report_ofs (r : FeedResult) (c : BitVec 5) (s : State) : (report r c s).ofs = s.ofs := rfl
@[simp] theorem report_rc (r : FeedResult) (c : BitVec 5) (s : State) : (report r c s).rc = s.rc := rfl
@[simp] theorem report_rem (r : FeedResult) (c : BitVec 5) (s : State) : (report r c s).rem = s.rem := rfl
@[simp] theorem report_pend (r : FeedResult) (c : BitVec 5) (s : State) : (report r c s).pend = s.pend := rfl
@[simp] theorem report_res (r : FeedResult) (c : BitVec 5) (s : State) : (report r c s).res = resOf r := rfl
@[simp] theorem report_cause (r : FeedResult) (c : BitVec 5) (s : State) : (report r c s).cause = c := rfl
@[simp] theorem report_status (r : FeedResult) (c : BitVec 5) (s : State) : (report r c s).status = statusOr s.status c := rfl
@[simp] theorem report_last (r : FeedResult) (c : BitVec 5) (s : State) : (report r c s).last = s.last := rfl
@[simp] theorem report_rdy (r : FeedResult) (c : BitVec 5) (s : State) : (report r c s).rdy = s.rdy := rfl
@[simp] theorem report_co (r : FeedResult) (c : BitVec 5) (s : State) : (report r c s).co = s.co := rfl
@[simp] theorem report_expect (r : FeedResult) (c : BitVec 5) (s : State) : (report r c s).expect = s.expect := rfl
@[simp] theorem report_cnt (r : FeedResult) (c : BitVec 5) (s : State) : (report r c s).cnt = s.cnt := rfl
@[simp] theorem report_wt (r : FeedResult) (c : BitVec 5) (s : State) : (report r c s).wt = s.wt := rfl
@[simp] theorem report_rt (r : FeedResult) (c : BitVec 5) (s : State) : (report r c s).rt = s.rt := rfl
@[simp] theorem report_trace (r : FeedResult) (c : BitVec 5) (s : State) : (report r c s).trace = s.trace ++ [.result (.fed r)] := rfl
@[simp] theorem report_schedule (r : FeedResult) (c : BitVec 5) (s : State) : (report r c s).schedule = s.schedule := rfl
@[simp] theorem report_between (r : FeedResult) (c : BitVec 5) (s : State) : (report r c s).between = s.between := rfl

/-! ## startFrame -/

@[simp] theorem startFrame_cfg (s : State) : (startFrame s).cfg = s.cfg := rfl
@[simp] theorem startFrame_buf (s : State) : (startFrame s).buf = s.buf := rfl
@[simp] theorem startFrame_rb (s : State) : (startFrame s).rb = rbWrite s.rb 0 SOF := rfl
@[simp] theorem startFrame_ofs (s : State) : (startFrame s).ofs = 1 := rfl
@[simp] theorem startFrame_rc (s : State) : (startFrame s).rc = s.rc := rfl
@[simp] theorem startFrame_rem (s : State) : (startFrame s).rem = s.rem := rfl
@[simp] theorem startFrame_pend (s : State) : (startFrame s).pend = s.pend := rfl
@[simp] theorem startFrame_res (s : State) : (startFrame s).res = s.res := rfl
@[simp] theorem startFrame_cause (s : State) : (startFrame s).cause = s.cause := rfl
@[simp] theorem startFrame_status (s : State) : (startFrame s).status = s.status := rfl
@[simp] theorem startFrame_last (s : State) : (startFrame s).last = s.last := rfl
@[simp] theorem startFrame_rdy (s : State) : (startFrame s).rdy = s.rdy := rfl
@[simp] theorem startFrame_co (s : State) : (startFrame s).co = s.co := rfl
@[simp] theorem startFrame_expect (s : State) : (startFrame s).expect = s.expect := rfl
@[simp] theorem startFrame_cnt (s : State) : (startFrame s).cnt = s.cnt := rfl
@[simp] theorem startFrame_wt (s : State) : (startFrame s).wt = s.wt := rfl
@[simp] theorem startFrame_rt (s : State) : (startFrame s).rt = s.rt := rfl
@[simp] theorem startFrame_trace (s : State) : (startFrame s).trace = s.trace := rfl
@[simp] theorem startFrame_schedule (s : State) : (startFrame s).schedule = s.schedule := rfl
@[simp] theorem startFrame_between (s : State) : (startFrame s).between = s.between := rfl

/-! ## acceptByte -/

@[simp] theorem acceptByte_cfg (b : Byte) (s : State) : (acceptByte b s).cfg = s.cfg := rfl
@[simp] theorem acceptByte_buf (b : Byte) (s : State) : (acceptByte b s).buf = s.buf := rfl
@[simp] theorem acceptByte_rb (b : Byte) (s : State) : (acceptByte b s).rb = rbWrite s.rb s.ofs b := rfl
@[simp] theorem acceptByte_ofs (b : Byte) (s : State) : (acceptByte b s).ofs = s.ofs + 1 := rfl
@[simp] theorem acceptByte_rc (b : Byte) (s : State) : (acceptByte b s).rc = s.rc := rfl
@[simp] theorem acceptByte_rem (b : Byte) (s : State) : (acceptByte b s).rem = s.rem := rfl
@[simp] theorem acceptByte_pend (b : Byte) (s : State) : (acceptByte b s).pend = s.pend := rfl
@[simp] theorem acceptByte_res (b : Byte) (s : State) : (acceptByte b s).res = s.res := rfl
@[simp] theorem acceptByte_cause (b : Byte) (s : State) : (acceptByte b s).cause = s.cause := rfl
@[simp] theorem acceptByte_status (b : Byte) (s : State) : (acceptByte b s).status = s.status := rfl
@[simp] theorem acceptByte_last (b : Byte) (s : State) : (acceptByte b s).last = s.last := rfl
@[simp] theorem acceptByte_rdy (b : Byte) (s : State) : (acceptByte b s).rdy = s.rdy := rfl
@[simp] theorem acceptByte_co (b : Byte) (s : State) : (acceptByte b s).co = s.co := rfl
@[simp] theorem acceptByte_expect (b : Byte) (s : State) : (acceptByte b s).expect = s.expect := rfl
@[simp] theorem acceptByte_cnt (b : Byte) (s : State) : (acceptByte b s).cnt = s.cnt := rfl
@[simp] theorem acceptByte_wt (b : Byte) (s : State) : (acceptByte b s).wt = s.wt := rfl
@[simp] theorem acceptByte_rt (b : Byte) (s : State) : (acceptByte b s).rt = s.rt := rfl
@[simp] theorem acceptByte_trace (b : Byte) (s : State) : (acceptByte b s).trace = s.trace := rfl
@[simp] theorem acceptByte_schedule (b : Byte) (s : State) : (acceptByte b s).schedule = s.schedule := rfl
@[simp] theorem acceptByte_between (b : Byte) (s : State) : (acceptByte b s).between = s.between := rfl

/-! ## toIdle -/

@[simp] theorem toIdle_cfg (s : State) : (toIdle s).cfg = s.cfg := rfl
@[simp] theorem toIdle_buf (s : State) : (toIdle s).buf = s.buf := rfl
@[simp] theorem toIdle_rb (s : State) : (toIdle s).rb = s.rb := rfl
@[simp] theorem toIdle_ofs (s : State) : (toIdle s).ofs = 0 := rfl
@[simp] theorem toIdle_rc (s : State) : (toIdle s).rc = s.rc := rfl
@[simp] theorem toIdle_rem (s : State) : (toIdle s).rem = s.rem := rfl
@[simp] theorem toIdle_pend (s : State) : (toIdle s).pend = s.pend := rfl
@[simp] theorem toIdle_res (s : State) : (toIdle s).res = s.res := rfl
@[simp] theorem toIdle_cause (s : State) : (toIdle s).cause = s.cause := rfl
@[simp] theorem toIdle_status (s : State) : (toIdle s).status = s.status := rfl
@[simp] theorem toIdle_last (s : State) : (toIdle s).last = s.last := rfl
@[simp] theorem toIdle_rdy (s : State) : (toIdle s).rdy = s.rdy := rfl
@[simp] theorem toIdle_co (s : State) : (toIdle s).co = s.co := rfl
@[simp] theorem toIdle_expect (s : State) : (toIdle s).expect = s.expect := rfl
@[simp] theorem toIdle_cnt (s : State) : (toIdle s).cnt = s.cnt := rfl
@[simp] theorem toIdle_wt (s : State) : (toIdle s).wt = s.wt := rfl
@[simp] theorem toIdle_rt (s : State) : (toIdle s).rt = s.rt := rfl
@[simp] theorem toIdle_trace (s : State) : (toIdle s).trace = s.trace := rfl
@[simp] theorem toIdle_schedule (s : State) : (toIdle s).schedule = s.schedule := rfl
@[simp] theorem toIdle_between (s : State) : (toIdle s).between = s.between := rfl

/-! ## latchFrame -/

@[simp] theorem latchFrame_cfg (s : State) : (latchFrame s).cfg = s.cfg := rfl
@[simp] theorem latchFrame_buf (s : State) : (latchFrame s).buf = s.buf := rfl
@[simp] theorem latchFrame_rb (s : State) : (latchFrame s).rb = s.rb := rfl
@[simp] theorem latchFrame_ofs (s : State) : (latchFrame s).ofs = s.ofs := rfl
@[simp] theorem latchFrame_rc (s : State) : (latchFrame s).rc = s.rc := rfl
@[simp] theorem latchFrame_rem (s : State) : (latchFrame s).rem = s.rem := rfl
@[simp] theorem latchFrame_pend (s : State) : (latchFrame s).pend = s.pend := rfl
@[simp] theorem latchFrame_res (s : State) : (latchFrame s).res = s.res := rfl
@[simp] theorem latchFrame_cause (s : State) : (latchFrame s).cause = s.cause := rfl
@[simp] theorem latchFrame_status (s : State) : (latchFrame s).status = if s.rdy then s.status ||| lost else s.status := rfl
@[simp] theorem latchFrame_last (s : State) : (latchFrame s).last = rbFields s.rb := rfl
@[simp] theorem latchFrame_rdy (s : State) : (latchFrame s).rdy = true := rfl
@[simp] theorem latchFrame_co (s : State) : (latchFrame s).co = s.co := rfl
@[simp] theorem latchFrame_expect (s : State) : (latchFrame s).expect = s.expect := rfl
@[simp] theorem latchFrame_cnt (s : State) : (latchFrame s).cnt = s.cnt := rfl
@[simp] theorem latchFrame_wt (s : State) : (latchFrame s).wt = s.wt := rfl
@[simp] theorem latchFrame_rt (s : State) : (latchFrame s).rt = s.rt := rfl
@[simp] theorem latchFrame_trace (s : State) : (latchFrame s).trace = s.trace := rfl
@[simp] theorem latchFrame_schedule (s : State) : (latchFrame s).schedule = s.schedule := rfl
@[simp] theorem latchFrame_between (s : State) : (latchFrame s).between = s.between := rfl

/-! ## clearPending -/

@[simp] theorem clearPending_cfg (s : State) : (clearPending s).cfg = s.cfg := rfl
@[simp] theorem clearPending_buf (s : State) : (clearPending s).buf = s.buf := rfl
@[simp] theorem clearPending_rb (s : State) : (clearPending s).rb = s.rb := rfl
@[simp] theorem clearPending_ofs (s : State) : (clearPending s).ofs = s.ofs := rfl
@[simp] theorem clearPending_rc (s : State) : (clearPending s).rc = s.rc := rfl
@[simp] theorem clearPending_rem (s : State) : (clearPending s).rem = s.rem := rfl
@[simp] theorem clearPending_pend (s : State) : (clearPending s).pend = pendNone := rfl
@[simp] theorem clearPending_res (s : State) : (clearPending s).res = s.res := rfl
@[simp] theorem clearPending_cause (s : State) : (clearPending s).cause = s.cause := rfl
@[simp] theorem clearPending_status (s : State) : (clearPending s).status = s.status := rfl
@[simp] theorem clearPending_last (s : State) : (clearPending s).last = s.last := rfl
@[simp] theorem clearPending_rdy (s : State) : (clearPending s).rdy = s.rdy := rfl
@[simp] theorem clearPending_co (s : State) : (clearPending s).co = s.co := rfl
@[simp] theorem clearPending_expect (s : State) : (clearPending s).expect = s.expect := rfl
@[simp] theorem clearPending_cnt (s : State) : (clearPending s).cnt = s.cnt := rfl
@[simp] theorem clearPending_wt (s : State) : (clearPending s).wt = s.wt := rfl
@[simp] theorem clearPending_rt (s : State) : (clearPending s).rt = s.rt := rfl
@[simp] theorem clearPending_trace (s : State) : (clearPending s).trace = s.trace := rfl
@[simp] theorem clearPending_schedule (s : State) : (clearPending s).schedule = s.schedule := rfl
@[simp] theorem clearPending_between (s : State) : (clearPending s).between = s.between := rfl

/-! ## countByte -/

@[simp] theorem countByte_cfg (s : State) : (countByte s).cfg = s.cfg := rfl
@[simp] theorem countByte_buf (s : State) : (countByte s).buf = s.buf := rfl
@[simp] theorem countByte_rb (s : State) : (countByte s).rb = s.rb := rfl
@[simp] theorem countByte_ofs (s : State) : (countByte s).ofs = s.ofs := rfl
@[simp] theorem countByte_rc (s : State) : (countByte s).rc = s.rc := rfl
@[simp] theorem countByte_rem (s : State) : (countByte s).rem = countDown s.cfg.capacity s.rem := rfl
@[simp] theorem countByte_pend (s : State) : (countByte s).pend = s.pend := rfl
@[simp] theorem countByte_res (s : State) : (countByte s).res = s.res := rfl
@[simp] theorem countByte_cause (s : State) : (countByte s).cause = s.cause := rfl
@[simp] theorem countByte_status (s : State) : (countByte s).status = s.status := rfl
@[simp] theorem countByte_last (s : State) : (countByte s).last = s.last := rfl
@[simp] theorem countByte_rdy (s : State) : (countByte s).rdy = s.rdy := rfl
@[simp] theorem countByte_co (s : State) : (countByte s).co = s.co := rfl
@[simp] theorem countByte_expect (s : State) : (countByte s).expect = s.expect := rfl
@[simp] theorem countByte_cnt (s : State) : (countByte s).cnt = s.cnt := rfl
@[simp] theorem countByte_wt (s : State) : (countByte s).wt = s.wt + 1 := rfl
@[simp] theorem countByte_rt (s : State) : (countByte s).rt = s.rt := rfl
@[simp] theorem countByte_trace (s : State) : (countByte s).trace = s.trace := rfl
@[simp] theorem countByte_schedule (s : State) : (countByte s).schedule = s.schedule := rfl
@[simp] theorem countByte_between (s : State) : (countByte s).between = s.between := rfl

/-! ## notifyMilestones -/

@[simp] theorem notifyMilestones_cfg (s : State) : (notifyMilestones s).cfg = s.cfg := rfl
@[simp] theorem notifyMilestones_buf (s : State) : (notifyMilestones s).buf = s.buf := rfl
@[simp] theorem notifyMilestones_rb (s : State) : (notifyMilestones s).rb = s.rb := rfl
@[simp] theorem notifyMilestones_ofs (s : State) : (notifyMilestones s).ofs = s.ofs := rfl
@[simp] theorem notifyMilestones_rc (s : State) : (notifyMilestones s).rc = s.rc := rfl
@[simp] theorem notifyMilestones_rem (s : State) : (notifyMilestones s).rem = s.rem := rfl
@[simp] theorem notifyMilestones_pend (s : State) : (notifyMilestones s).pend = raiseMilestones s.cfg.capacity s.wp s.pend := rfl
@[simp] theorem notifyMilestones_res (s : State) : (notifyMilestones s).res = s.res := rfl
@[simp] theorem notifyMilestones_cause (s : State) : (notifyMilestones s).cause = s.cause := rfl
@[simp] theorem notifyMilestones_status (s : State) : (notifyMilestones s).status = s.status := rfl
@[simp] theorem notifyMilestones_last (s : State) : (notifyMilestones s).last = s.last := rfl
@[simp] theorem notifyMilestones_rdy (s : State) : (notifyMilestones s).rdy = s.rdy := rfl
@[simp] theorem notifyMilestones_co (s : State) : (notifyMilestones s).co = s.co := rfl
@[simp] theorem notifyMilestones_expect (s : State) : (notifyMilestones s).expect = s.expect := rfl
@[simp] theorem notifyMilestones_cnt (s : State) : (notifyMilestones s).cnt = s.cnt := rfl
@[simp] theorem notifyMilestones_wt (s : State) : (notifyMilestones s).wt = s.wt := rfl
@[simp] theorem notifyMilestones_rt (s : State) : (notifyMilestones s).rt = s.rt := rfl
@[simp] theorem notifyMilestones_trace (s : State) : (notifyMilestones s).trace = s.trace := rfl
@[simp] theorem notifyMilestones_schedule (s : State) : (notifyMilestones s).schedule = s.schedule := rfl
@[simp] theorem notifyMilestones_between (s : State) : (notifyMilestones s).between = s.between := rfl

/-! ## createPending -/

@[simp] theorem createPending_cfg (cmd : Byte) (timeout : Nat) (s : State) : (createPending cmd timeout s).cfg = s.cfg := rfl
@[simp] theorem createPending_buf (cmd : Byte) (timeout : Nat) (s : State) : (createPending cmd timeout s).buf = s.buf := rfl
@[simp] theorem createPending_rb (cmd : Byte) (timeout : Nat) (s : State) : (createPending cmd timeout s).rb = s.rb := rfl
@[simp] theorem createPending_ofs (cmd : Byte) (timeout : Nat) (s : State) : (createPending cmd timeout s).ofs = s.ofs := rfl
@[simp] theorem createPending_rc (cmd : Byte) (timeout : Nat) (s : State) : (createPending cmd timeout s).rc = s.rc := rfl
@[simp] theorem createPending_rem (cmd : Byte) (timeout : Nat) (s : State) : (createPending cmd timeout s).rem = s.rem := rfl
@[simp] theorem createPending_pend (cmd : Byte) (timeout : Nat) (s : State) : (createPending cmd timeout s).pend = s.pend := rfl
@[simp] theorem createPending_res (cmd : Byte) (timeout : Nat) (s : State) : (createPending cmd timeout s).res = s.res := rfl
@[simp] theorem createPending_cause (cmd : Byte) (timeout : Nat) (s : State) : (createPending cmd timeout s).cause = s.cause := rfl
@[simp] theorem createPending_status (cmd : Byte) (timeout : Nat) (s : State) : (createPending cmd timeout s).status = s.status := rfl
@[simp] theorem createPending_last (cmd : Byte) (timeout : Nat) (s : State) : (createPending cmd timeout s).last = s.last := rfl
@[simp] theorem createPending_rdy (cmd : Byte) (timeout : Nat) (s : State) : (createPending cmd timeout s).rdy = false := rfl
@[simp] theorem createPending_co (cmd : Byte) (timeout : Nat) (s : State) : (createPending cmd timeout s).co = .awaitingReply := rfl
@[simp] theorem createPending_expect (cmd : Byte) (timeout : Nat) (s : State) : (createPending cmd timeout s).expect = cmd := rfl
@[simp] theorem createPending_cnt (cmd : Byte) (timeout : Nat) (s : State) : (createPending cmd timeout s).cnt = timeout := rfl
@[simp] theorem createPending_wt (cmd : Byte) (timeout : Nat) (s : State) : (createPending cmd timeout s).wt = s.wt := rfl
@[simp] theorem createPending_rt (cmd : Byte) (timeout : Nat) (s : State) : (createPending cmd timeout s).rt = s.rt := rfl
@[simp] theorem createPending_trace (cmd : Byte) (timeout : Nat) (s : State) : (createPending cmd timeout s).trace = s.trace := rfl
@[simp] theorem createPending_schedule (cmd : Byte) (timeout : Nat) (s : State) : (createPending cmd timeout s).schedule = s.schedule := rfl
@[simp] theorem createPending_between (cmd : Byte) (timeout : Nat) (s : State) : (createPending cmd timeout s).between = s.between := rfl

/-! ## timeoutActions -/

@[simp] theorem timeoutActions_cfg (s : State) : (timeoutActions s).cfg = s.cfg := rfl
@[simp] theorem timeoutActions_buf (s : State) : (timeoutActions s).buf = s.buf := rfl
@[simp] theorem timeoutActions_rb (s : State) : (timeoutActions s).rb = s.rb := rfl
@[simp] theorem timeoutActions_ofs (s : State) : (timeoutActions s).ofs = 0 := rfl
@[simp] theorem timeoutActions_rc (s : State) : (timeoutActions s).rc = s.rc := rfl
@[simp] theorem timeoutActions_rem (s : State) : (timeoutActions s).rem = s.rem := rfl
@[simp] theorem timeoutActions_pend (s : State) : (timeoutActions s).pend = s.pend := rfl
@[simp] theorem timeoutActions_res (s : State) : (timeoutActions s).res = s.res := rfl
@[simp] theorem timeoutActions_cause (s : State) : (timeoutActions s).cause = s.cause := rfl
@[simp] theorem timeoutActions_status (s : State) : (timeoutActions s).status = s.status := rfl
@[simp] theorem timeoutActions_last (s : State) : (timeoutActions s).last = s.last := rfl
@[simp] theorem timeoutActions_rdy (s : State) : (timeoutActions s).rdy = false := rfl
@[simp] theorem timeoutActions_co (s : State) : (timeoutActions s).co = .idle := rfl
@[simp] theorem timeoutActions_expect (s : State) : (timeoutActions s).expect = s.expect := rfl
@[simp] theorem timeoutActions_cnt (s : State) : (timeoutActions s).cnt = s.cnt := rfl
@[simp] theorem timeoutActions_wt (s : State) : (timeoutActions s).wt = s.wt := rfl
@[simp] theorem timeoutActions_rt (s : State) : (timeoutActions s).rt = s.rt := rfl
@[simp] theorem timeoutActions_trace (s : State) : (timeoutActions s).trace = s.trace := rfl
@[simp] theorem timeoutActions_schedule (s : State) : (timeoutActions s).schedule = s.schedule := rfl
@[simp] theorem timeoutActions_between (s : State) : (timeoutActions s).between = s.between := rfl

/-! ## scheduleWord -/

@[simp] theorem configToRun_capacity (word : Option Instr) (c : Config) :
    (configToRun word c).capacity = c.capacity := by
  unfold configToRun; split <;> rfl
@[simp] theorem scheduleWord_cfg (nbits w : Nat) (s : State) :
    (scheduleWord nbits w s).cfg = configToRun (decodeTableWord nbits w) s.cfg := rfl
@[simp] theorem scheduleWord_buf (nbits w : Nat) (s : State) : (scheduleWord nbits w s).buf = s.buf := rfl
@[simp] theorem scheduleWord_rb (nbits w : Nat) (s : State) : (scheduleWord nbits w s).rb = s.rb := rfl
@[simp] theorem scheduleWord_ofs (nbits w : Nat) (s : State) : (scheduleWord nbits w s).ofs = s.ofs := rfl
@[simp] theorem scheduleWord_rc (nbits w : Nat) (s : State) : (scheduleWord nbits w s).rc = s.rc := rfl
@[simp] theorem scheduleWord_rem (nbits w : Nat) (s : State) : (scheduleWord nbits w s).rem = s.rem := rfl
@[simp] theorem scheduleWord_pend (nbits w : Nat) (s : State) : (scheduleWord nbits w s).pend = s.pend := rfl
@[simp] theorem scheduleWord_res (nbits w : Nat) (s : State) : (scheduleWord nbits w s).res = s.res := rfl
@[simp] theorem scheduleWord_cause (nbits w : Nat) (s : State) : (scheduleWord nbits w s).cause = s.cause := rfl
@[simp] theorem scheduleWord_status (nbits w : Nat) (s : State) : (scheduleWord nbits w s).status = s.status := rfl
@[simp] theorem scheduleWord_last (nbits w : Nat) (s : State) : (scheduleWord nbits w s).last = s.last := rfl
@[simp] theorem scheduleWord_rdy (nbits w : Nat) (s : State) : (scheduleWord nbits w s).rdy = s.rdy := rfl
@[simp] theorem scheduleWord_co (nbits w : Nat) (s : State) : (scheduleWord nbits w s).co = s.co := rfl
@[simp] theorem scheduleWord_expect (nbits w : Nat) (s : State) : (scheduleWord nbits w s).expect = s.expect := rfl
@[simp] theorem scheduleWord_cnt (nbits w : Nat) (s : State) : (scheduleWord nbits w s).cnt = s.cnt := rfl
@[simp] theorem scheduleWord_wt (nbits w : Nat) (s : State) : (scheduleWord nbits w s).wt = s.wt := rfl
@[simp] theorem scheduleWord_rt (nbits w : Nat) (s : State) : (scheduleWord nbits w s).rt = s.rt := rfl
@[simp] theorem scheduleWord_trace (nbits w : Nat) (s : State) : (scheduleWord nbits w s).trace = s.trace := rfl
@[simp] theorem scheduleWord_schedule (nbits w : Nat) (s : State) : (scheduleWord nbits w s).schedule = instructionBytes nbits w ++ s.schedule := rfl
@[simp] theorem scheduleWord_between (nbits w : Nat) (s : State) : (scheduleWord nbits w s).between = s.between := rfl

/-! ## storeByte -/

@[simp] theorem storeByte_cfg (i : Nat) (b : Byte) (s : State) : (storeByte i b s).cfg = s.cfg := rfl
@[simp] theorem storeByte_buf (i : Nat) (b : Byte) (s : State) : (storeByte i b s).buf = memSet s.buf i b := rfl
@[simp] theorem storeByte_rb (i : Nat) (b : Byte) (s : State) : (storeByte i b s).rb = s.rb := rfl
@[simp] theorem storeByte_ofs (i : Nat) (b : Byte) (s : State) : (storeByte i b s).ofs = s.ofs := rfl
@[simp] theorem storeByte_rc (i : Nat) (b : Byte) (s : State) : (storeByte i b s).rc = s.rc := rfl
@[simp] theorem storeByte_rem (i : Nat) (b : Byte) (s : State) : (storeByte i b s).rem = s.rem := rfl
@[simp] theorem storeByte_pend (i : Nat) (b : Byte) (s : State) : (storeByte i b s).pend = s.pend := rfl
@[simp] theorem storeByte_res (i : Nat) (b : Byte) (s : State) : (storeByte i b s).res = s.res := rfl
@[simp] theorem storeByte_cause (i : Nat) (b : Byte) (s : State) : (storeByte i b s).cause = s.cause := rfl
@[simp] theorem storeByte_status (i : Nat) (b : Byte) (s : State) : (storeByte i b s).status = s.status := rfl
@[simp] theorem storeByte_last (i : Nat) (b : Byte) (s : State) : (storeByte i b s).last = s.last := rfl
@[simp] theorem storeByte_rdy (i : Nat) (b : Byte) (s : State) : (storeByte i b s).rdy = s.rdy := rfl
@[simp] theorem storeByte_co (i : Nat) (b : Byte) (s : State) : (storeByte i b s).co = s.co := rfl
@[simp] theorem storeByte_expect (i : Nat) (b : Byte) (s : State) : (storeByte i b s).expect = s.expect := rfl
@[simp] theorem storeByte_cnt (i : Nat) (b : Byte) (s : State) : (storeByte i b s).cnt = s.cnt := rfl
@[simp] theorem storeByte_wt (i : Nat) (b : Byte) (s : State) : (storeByte i b s).wt = s.wt := rfl
@[simp] theorem storeByte_rt (i : Nat) (b : Byte) (s : State) : (storeByte i b s).rt = s.rt := rfl
@[simp] theorem storeByte_trace (i : Nat) (b : Byte) (s : State) : (storeByte i b s).trace = s.trace := rfl
@[simp] theorem storeByte_schedule (i : Nat) (b : Byte) (s : State) : (storeByte i b s).schedule = s.schedule := rfl
@[simp] theorem storeByte_between (i : Nat) (b : Byte) (s : State) : (storeByte i b s).between = s.between := rfl

/-! ## storeEnd -/

@[simp] theorem storeEnd_cfg (b : Byte) (s : State) : (storeEnd b s).cfg = s.cfg := rfl
@[simp] theorem storeEnd_buf (b : Byte) (s : State) : (storeEnd b s).buf = s.buf := rfl
@[simp] theorem storeEnd_rb (b : Byte) (s : State) : (storeEnd b s).rb = rbWrite s.rb 9 b := rfl
@[simp] theorem storeEnd_ofs (b : Byte) (s : State) : (storeEnd b s).ofs = s.ofs := rfl
@[simp] theorem storeEnd_rc (b : Byte) (s : State) : (storeEnd b s).rc = s.rc := rfl
@[simp] theorem storeEnd_rem (b : Byte) (s : State) : (storeEnd b s).rem = s.rem := rfl
@[simp] theorem storeEnd_pend (b : Byte) (s : State) : (storeEnd b s).pend = s.pend := rfl
@[simp] theorem storeEnd_res (b : Byte) (s : State) : (storeEnd b s).res = s.res := rfl
@[simp] theorem storeEnd_cause (b : Byte) (s : State) : (storeEnd b s).cause = s.cause := rfl
@[simp] theorem storeEnd_status (b : Byte) (s : State) : (storeEnd b s).status = s.status := rfl
@[simp] theorem storeEnd_last (b : Byte) (s : State) : (storeEnd b s).last = s.last := rfl
@[simp] theorem storeEnd_rdy (b : Byte) (s : State) : (storeEnd b s).rdy = s.rdy := rfl
@[simp] theorem storeEnd_co (b : Byte) (s : State) : (storeEnd b s).co = s.co := rfl
@[simp] theorem storeEnd_expect (b : Byte) (s : State) : (storeEnd b s).expect = s.expect := rfl
@[simp] theorem storeEnd_cnt (b : Byte) (s : State) : (storeEnd b s).cnt = s.cnt := rfl
@[simp] theorem storeEnd_wt (b : Byte) (s : State) : (storeEnd b s).wt = s.wt := rfl
@[simp] theorem storeEnd_rt (b : Byte) (s : State) : (storeEnd b s).rt = s.rt := rfl
@[simp] theorem storeEnd_trace (b : Byte) (s : State) : (storeEnd b s).trace = s.trace := rfl
@[simp] theorem storeEnd_schedule (b : Byte) (s : State) : (storeEnd b s).schedule = s.schedule := rfl
@[simp] theorem storeEnd_between (b : Byte) (s : State) : (storeEnd b s).between = s.between := rfl

/-! ## clearReady -/

@[simp] theorem clearReady_cfg (s : State) : (clearReady s).cfg = s.cfg := rfl
@[simp] theorem clearReady_buf (s : State) : (clearReady s).buf = s.buf := rfl
@[simp] theorem clearReady_rb (s : State) : (clearReady s).rb = s.rb := rfl
@[simp] theorem clearReady_ofs (s : State) : (clearReady s).ofs = s.ofs := rfl
@[simp] theorem clearReady_rc (s : State) : (clearReady s).rc = s.rc := rfl
@[simp] theorem clearReady_rem (s : State) : (clearReady s).rem = s.rem := rfl
@[simp] theorem clearReady_pend (s : State) : (clearReady s).pend = s.pend := rfl
@[simp] theorem clearReady_res (s : State) : (clearReady s).res = s.res := rfl
@[simp] theorem clearReady_cause (s : State) : (clearReady s).cause = s.cause := rfl
@[simp] theorem clearReady_status (s : State) : (clearReady s).status = s.status := rfl
@[simp] theorem clearReady_last (s : State) : (clearReady s).last = s.last := rfl
@[simp] theorem clearReady_rdy (s : State) : (clearReady s).rdy = false := rfl
@[simp] theorem clearReady_co (s : State) : (clearReady s).co = s.co := rfl
@[simp] theorem clearReady_expect (s : State) : (clearReady s).expect = s.expect := rfl
@[simp] theorem clearReady_cnt (s : State) : (clearReady s).cnt = s.cnt := rfl
@[simp] theorem clearReady_wt (s : State) : (clearReady s).wt = s.wt := rfl
@[simp] theorem clearReady_rt (s : State) : (clearReady s).rt = s.rt := rfl
@[simp] theorem clearReady_trace (s : State) : (clearReady s).trace = s.trace := rfl
@[simp] theorem clearReady_schedule (s : State) : (clearReady s).schedule = s.schedule := rfl
@[simp] theorem clearReady_between (s : State) : (clearReady s).between = s.between := rfl

/-! ## consumePending -/

@[simp] theorem consumePending_cfg (s : State) : (consumePending s).cfg = s.cfg := rfl
@[simp] theorem consumePending_buf (s : State) : (consumePending s).buf = s.buf := rfl
@[simp] theorem consumePending_rb (s : State) : (consumePending s).rb = s.rb := rfl
@[simp] theorem consumePending_ofs (s : State) : (consumePending s).ofs = s.ofs := rfl
@[simp] theorem consumePending_rc (s : State) : (consumePending s).rc = s.rc := rfl
@[simp] theorem consumePending_rem (s : State) : (consumePending s).rem = s.rem := rfl
@[simp] theorem consumePending_pend (s : State) : (consumePending s).pend = s.pend := rfl
@[simp] theorem consumePending_res (s : State) : (consumePending s).res = s.res := rfl
@[simp] theorem consumePending_cause (s : State) : (consumePending s).cause = s.cause := rfl
@[simp] theorem consumePending_status (s : State) : (consumePending s).status = s.status := rfl
@[simp] theorem consumePending_last (s : State) : (consumePending s).last = s.last := rfl
@[simp] theorem consumePending_rdy (s : State) : (consumePending s).rdy = s.rdy := rfl
@[simp] theorem consumePending_co (s : State) : (consumePending s).co = .idle := rfl
@[simp] theorem consumePending_expect (s : State) : (consumePending s).expect = s.expect := rfl
@[simp] theorem consumePending_cnt (s : State) : (consumePending s).cnt = s.cnt := rfl
@[simp] theorem consumePending_wt (s : State) : (consumePending s).wt = s.wt := rfl
@[simp] theorem consumePending_rt (s : State) : (consumePending s).rt = s.rt := rfl
@[simp] theorem consumePending_trace (s : State) : (consumePending s).trace = s.trace := rfl
@[simp] theorem consumePending_schedule (s : State) : (consumePending s).schedule = s.schedule := rfl
@[simp] theorem consumePending_between (s : State) : (consumePending s).between = s.between := rfl

/-! ## setBetween -/

@[simp] theorem setBetween_cfg (slots : List (List Intruder)) (s : State) : (setBetween slots s).cfg = s.cfg := rfl
@[simp] theorem setBetween_buf (slots : List (List Intruder)) (s : State) : (setBetween slots s).buf = s.buf := rfl
@[simp] theorem setBetween_rb (slots : List (List Intruder)) (s : State) : (setBetween slots s).rb = s.rb := rfl
@[simp] theorem setBetween_ofs (slots : List (List Intruder)) (s : State) : (setBetween slots s).ofs = s.ofs := rfl
@[simp] theorem setBetween_rc (slots : List (List Intruder)) (s : State) : (setBetween slots s).rc = s.rc := rfl
@[simp] theorem setBetween_rem (slots : List (List Intruder)) (s : State) : (setBetween slots s).rem = s.rem := rfl
@[simp] theorem setBetween_pend (slots : List (List Intruder)) (s : State) : (setBetween slots s).pend = s.pend := rfl
@[simp] theorem setBetween_res (slots : List (List Intruder)) (s : State) : (setBetween slots s).res = s.res := rfl
@[simp] theorem setBetween_cause (slots : List (List Intruder)) (s : State) : (setBetween slots s).cause = s.cause := rfl
@[simp] theorem setBetween_status (slots : List (List Intruder)) (s : State) : (setBetween slots s).status = s.status := rfl
@[simp] theorem setBetween_last (slots : List (List Intruder)) (s : State) : (setBetween slots s).last = s.last := rfl
@[simp] theorem setBetween_rdy (slots : List (List Intruder)) (s : State) : (setBetween slots s).rdy = s.rdy := rfl
@[simp] theorem setBetween_co (slots : List (List Intruder)) (s : State) : (setBetween slots s).co = s.co := rfl
@[simp] theorem setBetween_expect (slots : List (List Intruder)) (s : State) : (setBetween slots s).expect = s.expect := rfl
@[simp] theorem setBetween_cnt (slots : List (List Intruder)) (s : State) : (setBetween slots s).cnt = s.cnt := rfl
@[simp] theorem setBetween_wt (slots : List (List Intruder)) (s : State) : (setBetween slots s).wt = s.wt := rfl
@[simp] theorem setBetween_rt (slots : List (List Intruder)) (s : State) : (setBetween slots s).rt = s.rt := rfl
@[simp] theorem setBetween_trace (slots : List (List Intruder)) (s : State) : (setBetween slots s).trace = s.trace := rfl
@[simp] theorem setBetween_schedule (slots : List (List Intruder)) (s : State) : (setBetween slots s).schedule = s.schedule := rfl
@[simp] theorem setBetween_between (slots : List (List Intruder)) (s : State) : (setBetween slots s).between = slots := rfl

/-! ## countRead -/

@[simp] theorem countRead_cfg (s : State) : (countRead s).cfg = s.cfg := rfl
@[simp] theorem countRead_buf (s : State) : (countRead s).buf = s.buf := rfl
@[simp] theorem countRead_rb (s : State) : (countRead s).rb = s.rb := rfl
@[simp] theorem countRead_ofs (s : State) : (countRead s).ofs = s.ofs := rfl
@[simp] theorem countRead_rc (s : State) : (countRead s).rc = s.rc := rfl
@[simp] theorem countRead_rem (s : State) : (countRead s).rem = s.rem := rfl
@[simp] theorem countRead_pend (s : State) : (countRead s).pend = s.pend := rfl
@[simp] theorem countRead_res (s : State) : (countRead s).res = s.res := rfl
@[simp] theorem countRead_cause (s : State) : (countRead s).cause = s.cause := rfl
@[simp] theorem countRead_status (s : State) : (countRead s).status = s.status := rfl
@[simp] theorem countRead_last (s : State) : (countRead s).last = s.last := rfl
@[simp] theorem countRead_rdy (s : State) : (countRead s).rdy = s.rdy := rfl
@[simp] theorem countRead_co (s : State) : (countRead s).co = s.co := rfl
@[simp] theorem countRead_expect (s : State) : (countRead s).expect = s.expect := rfl
@[simp] theorem countRead_cnt (s : State) : (countRead s).cnt = s.cnt := rfl
@[simp] theorem countRead_wt (s : State) : (countRead s).wt = s.wt := rfl
@[simp] theorem countRead_rt (s : State) : (countRead s).rt = s.rt + 1 := rfl
@[simp] theorem countRead_trace (s : State) : (countRead s).trace = s.trace := rfl
@[simp] theorem countRead_schedule (s : State) : (countRead s).schedule = s.schedule := rfl
@[simp] theorem countRead_between (s : State) : (countRead s).between = s.between := rfl

/-! ## setReadCursor -/

@[simp] theorem setReadCursor_cfg (w : Nat) (s : State) : (setReadCursor w s).cfg = s.cfg := rfl
@[simp] theorem setReadCursor_buf (w : Nat) (s : State) : (setReadCursor w s).buf = s.buf := rfl
@[simp] theorem setReadCursor_rb (w : Nat) (s : State) : (setReadCursor w s).rb = s.rb := rfl
@[simp] theorem setReadCursor_ofs (w : Nat) (s : State) : (setReadCursor w s).ofs = s.ofs := rfl
@[simp] theorem setReadCursor_rc (w : Nat) (s : State) : (setReadCursor w s).rc = w := rfl
@[simp] theorem setReadCursor_rem (w : Nat) (s : State) : (setReadCursor w s).rem = s.rem := rfl
@[simp] theorem setReadCursor_pend (w : Nat) (s : State) : (setReadCursor w s).pend = s.pend := rfl
@[simp] theorem setReadCursor_res (w : Nat) (s : State) : (setReadCursor w s).res = s.res := rfl
@[simp] theorem setReadCursor_cause (w : Nat) (s : State) : (setReadCursor w s).cause = s.cause := rfl
@[simp] theorem setReadCursor_status (w : Nat) (s : State) : (setReadCursor w s).status = s.status := rfl
@[simp] theorem setReadCursor_last (w : Nat) (s : State) : (setReadCursor w s).last = s.last := rfl
@[simp] theorem setReadCursor_rdy (w : Nat) (s : State) : (setReadCursor w s).rdy = s.rdy := rfl
@[simp] theorem setReadCursor_co (w : Nat) (s : State) : (setReadCursor w s).co = s.co := rfl
@[simp] theorem setReadCursor_expect (w : Nat) (s : State) : (setReadCursor w s).expect = s.expect := rfl
@[simp] theorem setReadCursor_cnt (w : Nat) (s : State) : (setReadCursor w s).cnt = s.cnt := rfl
@[simp] theorem setReadCursor_wt (w : Nat) (s : State) : (setReadCursor w s).wt = s.wt := rfl
@[simp] theorem setReadCursor_rt (w : Nat) (s : State) : (setReadCursor w s).rt = s.rt := rfl
@[simp] theorem setReadCursor_trace (w : Nat) (s : State) : (setReadCursor w s).trace = s.trace := rfl
@[simp] theorem setReadCursor_schedule (w : Nat) (s : State) : (setReadCursor w s).schedule = s.schedule := rfl
@[simp] theorem setReadCursor_between (w : Nat) (s : State) : (setReadCursor w s).between = s.between := rfl

/-! ## Names for one update under another -/

@[simp] theorem reportInvalid_eq_report (c : BitVec 5) (s : State) : reportInvalid c s = report .invalid c s := rfl

/-! ## lineIdleReset -/

@[simp] theorem lineIdleReset_cfg (s : State) : (lineIdleReset s).cfg = s.cfg := by
  unfold lineIdleReset; split <;> rfl
@[simp] theorem lineIdleReset_buf (s : State) : (lineIdleReset s).buf = s.buf := by
  unfold lineIdleReset; split <;> rfl
@[simp] theorem lineIdleReset_rb (s : State) : (lineIdleReset s).rb = s.rb := by
  unfold lineIdleReset; split <;> rfl
@[simp] theorem lineIdleReset_ofs (s : State) : (lineIdleReset s).ofs = 0 := rfl
@[simp] theorem lineIdleReset_rc (s : State) : (lineIdleReset s).rc = s.rc := by
  unfold lineIdleReset; split <;> rfl
@[simp] theorem lineIdleReset_rem (s : State) : (lineIdleReset s).rem = s.rem := by
  unfold lineIdleReset; split <;> rfl
@[simp] theorem lineIdleReset_pend (s : State) : (lineIdleReset s).pend = s.pend := by
  unfold lineIdleReset; split <;> rfl
@[simp] theorem lineIdleReset_res (s : State) : (lineIdleReset s).res = s.res := by
  unfold lineIdleReset; split <;> rfl
@[simp] theorem lineIdleReset_cause (s : State) : (lineIdleReset s).cause = s.cause := by
  unfold lineIdleReset; split <;> rfl
@[simp] theorem lineIdleReset_status (s : State) :
    (lineIdleReset s).status = if s.ofs ≠ 0 then s.status ||| idleAbort else s.status := by
  unfold lineIdleReset; split <;> rfl
@[simp] theorem lineIdleReset_last (s : State) : (lineIdleReset s).last = s.last := by
  unfold lineIdleReset; split <;> rfl
@[simp] theorem lineIdleReset_rdy (s : State) : (lineIdleReset s).rdy = s.rdy := by
  unfold lineIdleReset; split <;> rfl
@[simp] theorem lineIdleReset_co (s : State) : (lineIdleReset s).co = s.co := by
  unfold lineIdleReset; split <;> rfl
@[simp] theorem lineIdleReset_expect (s : State) : (lineIdleReset s).expect = s.expect := by
  unfold lineIdleReset; split <;> rfl
@[simp] theorem lineIdleReset_cnt (s : State) : (lineIdleReset s).cnt = s.cnt := by
  unfold lineIdleReset; split <;> rfl
@[simp] theorem lineIdleReset_wt (s : State) : (lineIdleReset s).wt = s.wt := by
  unfold lineIdleReset; split <;> rfl
@[simp] theorem lineIdleReset_rt (s : State) : (lineIdleReset s).rt = s.rt := by
  unfold lineIdleReset; split <;> rfl
@[simp] theorem lineIdleReset_trace (s : State) : (lineIdleReset s).trace = s.trace := by
  unfold lineIdleReset; split <;> rfl
@[simp] theorem lineIdleReset_schedule (s : State) : (lineIdleReset s).schedule = s.schedule := by
  unfold lineIdleReset; split <;> rfl
@[simp] theorem lineIdleReset_between (s : State) : (lineIdleReset s).between = s.between := by
  unfold lineIdleReset; split <;> rfl

/-! ## What FEED leaves alone -/

/-- Every FEED step is one of a few updates of the state, so it leaves the fields below alone. -/
theorem feedByte_frame (b : Byte) (s : State) :
    (feedByte b s).cfg = s.cfg ∧ (feedByte b s).buf = s.buf ∧ (feedByte b s).rc = s.rc ∧ (feedByte b s).rem = s.rem ∧
    (feedByte b s).pend = s.pend ∧ (feedByte b s).co = s.co ∧ (feedByte b s).expect = s.expect ∧
    (feedByte b s).cnt = s.cnt ∧ (feedByte b s).wt = s.wt ∧ (feedByte b s).rt = s.rt ∧
    (feedByte b s).schedule = s.schedule ∧ (feedByte b s).between = s.between := by
  unfold feedByte feedIdle feedConstant feedPayload feedEnd
  dsimp only
  split_ifs <;> simp

@[simp] theorem feedByte_cfg (b : Byte) (s : State) : (feedByte b s).cfg = s.cfg := (feedByte_frame b s).1
@[simp] theorem feedByte_buf (b : Byte) (s : State) : (feedByte b s).buf = s.buf := (feedByte_frame b s).2.1
@[simp] theorem feedByte_rc (b : Byte) (s : State) : (feedByte b s).rc = s.rc := (feedByte_frame b s).2.2.1
@[simp] theorem feedByte_rem (b : Byte) (s : State) : (feedByte b s).rem = s.rem := (feedByte_frame b s).2.2.2.1
@[simp] theorem feedByte_pend (b : Byte) (s : State) : (feedByte b s).pend = s.pend := (feedByte_frame b s).2.2.2.2.1
@[simp] theorem feedByte_co (b : Byte) (s : State) : (feedByte b s).co = s.co := (feedByte_frame b s).2.2.2.2.2.1
@[simp] theorem feedByte_expect (b : Byte) (s : State) : (feedByte b s).expect = s.expect := (feedByte_frame b s).2.2.2.2.2.2.1
@[simp] theorem feedByte_cnt (b : Byte) (s : State) : (feedByte b s).cnt = s.cnt := (feedByte_frame b s).2.2.2.2.2.2.2.1
@[simp] theorem feedByte_wt (b : Byte) (s : State) : (feedByte b s).wt = s.wt := (feedByte_frame b s).2.2.2.2.2.2.2.2.1
@[simp] theorem feedByte_rt (b : Byte) (s : State) : (feedByte b s).rt = s.rt := (feedByte_frame b s).2.2.2.2.2.2.2.2.2.1
@[simp] theorem feedByte_schedule (b : Byte) (s : State) : (feedByte b s).schedule = s.schedule := (feedByte_frame b s).2.2.2.2.2.2.2.2.2.2.1
@[simp] theorem feedByte_between (b : Byte) (s : State) : (feedByte b s).between = s.between := (feedByte_frame b s).2.2.2.2.2.2.2.2.2.2.2

/-! ## What taking the latched frame leaves -/

/-- TAKE returns the latched frame when `RDY` is set, and leaves `RDY` clear (42_codec_feed.md R131). -/
theorem takeLatched_eq (s : State) : takeLatched s = (if s.rdy then some s.last else none, clearReady s) := by
  unfold takeLatched
  split
  · rfl
  · next h =>
    have : clearReady s = s := by cases s; simp_all [clearReady]
    rw [this]

end Sys2Proof.Machine
end

