-- ==== Sys2Proof/Laws/Ops.lean ====
section
/-!
SUPPORT. For each shared operation, one lemma that says all it can do when it answers a next state, and the packaged
inductions over lists of steps.
-/

namespace Sys2Proof.Machine

/-! ## Sequencing -/

theorem next_eq_next_iff {a t : State} : (Host.Outcome.next a : Out) = .next t ↔ t = a :=
  ⟨fun h => (Host.Outcome.next.inj h).symm, fun h => by rw [h]⟩

@[simp] theorem andThen_next (s : State) (f : State → Out) : andThen (.next s) f = f s := rfl
@[simp] theorem andThen_fault (r : Fault) (f : State → Out) : andThen (.fault r) f = .fault r := rfl
@[simp] theorem andThen_refused (r : Refusal) (f : State → Out) : andThen (.refused r) f = .refused r := rfl

theorem andThen_eq_next {o : Out} {f : State → Out} {t : State} :
    andThen o f = .next t ↔ ∃ s, o = .next s ∧ f s = .next t := by
  cases o <;> simp

@[simp] theorem forEach_nil {α : Type} (f : α → State → Out) (s : State) : forEach f [] s = .next s := rfl
@[simp] theorem forEach_cons {α : Type} (f : α → State → Out) (a : α) (as : List α) (s : State) :
    forEach f (a :: as) s = andThen (f a s) (forEach f as) := rfl

theorem andThen_assoc (o : Out) (f g : State → Out) :
    andThen (andThen o f) g = andThen o fun s => andThen (f s) g := by
  cases o <;> rfl

theorem forEach_append {α : Type} (f : α → State → Out) (as bs : List α) (s : State) :
    forEach f (as ++ bs) s = andThen (forEach f as s) (forEach f bs) := by
  induction as generalizing s with
  | nil => rfl
  | cons a as ih =>
    rw [List.cons_append, forEach_cons, forEach_cons, andThen_assoc]
    exact congrArg _ (funext fun t => ih t)

/-- A property that every step of a list keeps holds after the whole list. -/
theorem forEach_keeps {α : Type} {f : α → State → Out} {P : State → Prop} {as : List α}
    (h : ∀ a ∈ as, ∀ s t, P s → f a s = .next t → P t) {s t : State} (hs : P s)
    (ht : forEach f as s = .next t) : P t := by
  induction as generalizing s with
  | nil => cases ht; exact hs
  | cons a as ih =>
    obtain ⟨u, hu, ht⟩ := andThen_eq_next.1 ht
    exact ih (fun c hc => h c (List.mem_cons_of_mem _ hc)) (h a List.mem_cons_self s u hs hu) ht

/-- If every step of a list completes where `P` holds, and keeps `P`, so does the whole list. -/
theorem forEach_completes {α : Type} {f : α → State → Out} {P : State → Prop} {as : List α}
    (h : ∀ a ∈ as, ∀ s, P s → ∃ t, f a s = .next t ∧ P t) {s : State} (hs : P s) :
    ∃ t, forEach f as s = .next t ∧ P t := by
  induction as generalizing s with
  | nil => exact ⟨s, rfl, hs⟩
  | cons a as ih =>
    obtain ⟨u, hu, hP⟩ := h a List.mem_cons_self s hs
    obtain ⟨t, ht, hPt⟩ := ih (fun c hc => h c (List.mem_cons_of_mem _ hc)) hP
    exact ⟨t, by rw [forEach_cons, hu]; exact ht, hPt⟩

/-! ## BUF -/

theorem bufWrite_eq_next {i : Nat} {b : Byte} {s t : State} :
    bufWrite i b s = .next t ↔ i < s.cfg.capacity ∧ t = storeByte i b s := by
  unfold bufWrite; split <;> simp_all [eq_comm]

theorem bufRead_eq_ok {i : Nat} {b : Byte} {s : State} :
    bufRead i s = .ok b ↔ i < s.cfg.capacity ∧ b = memGet s.buf i := by
  unfold bufRead; split <;> simp_all [eq_comm]

theorem wp_lt {s : State} (h : s.cfg.wf) : s.wp < s.cfg.capacity := Nat.mod_lt _ (by unfold Config.wf at h; omega)

/-- With `REM` in its range, the write cursor is `N - REM` (10_state.md R28). -/
theorem wp_eq_sub {s : State} (h1 : 1 ≤ s.rem) (h2 : s.rem ≤ s.cfg.capacity) : s.wp = s.cfg.capacity - s.rem :=
  Nat.mod_eq_of_lt (by omega)

/-- A drain reads only indices that exist. -/
theorem drainIndices_lt {n rc w i : Nat} (hw : w ≤ n) (h : i ∈ drainIndices n rc w) : i < n := by
  unfold drainIndices at h
  split_ifs at h <;> simp [List.mem_range'_1] at h <;> omega

/-! ## RB -/

@[simp] theorem rbRead_rbWrite_self (rb : ReplyBuffer) (i : Fin 10) (b : Byte) : rbRead (rbWrite rb i b) i = b := by
  fin_cases i <;> rfl

theorem rbRead_rbWrite_ne (rb : ReplyBuffer) {i j : Fin 10} (b : Byte) (h : j ≠ i) :
    rbRead (rbWrite rb i b) j = rbRead rb j := by
  fin_cases i <;> fin_cases j <;> first | rfl | exact absurd rfl h

/-! ## FEED -/

/-- All that a FEED step can do, by the offset and the byte (42_codec_feed.md R134). -/
theorem feedByte_cases (b : Byte) (s : State) :
    (s.ofs = 0 ∧ b = SOF ∧ feedByte b s = report .incomplete causeNone (startFrame s)) ∨
    (s.ofs = 0 ∧ b ≠ SOF ∧ feedByte b s = report .incomplete causeNone s) ∨
    (s.ofs = 1 ∧ feedByte b s = feedConstant VER badVer b s) ∨
    (s.ofs = 2 ∧ feedByte b s = feedConstant LEN badLen b s) ∨
    (3 ≤ s.ofs.val ∧ s.ofs.val ≤ 8 ∧ feedByte b s = report .incomplete causeNone (acceptByte b s)) ∨
    (s.ofs = 9 ∧ feedByte b s = feedEnd b s) := by
  obtain ⟨k, hk⟩ : ∃ k, s.ofs = k := ⟨_, rfl⟩
  unfold feedByte feedIdle feedPayload
  rw [hk]
  fin_cases k <;> by_cases hb : b = SOF <;> simp [hb]

/-- The three endings where one constant is expected (42_codec_feed.md R123, R124). -/
theorem feedConstant_cases (expected : Byte) (bad : BitVec 5) (b : Byte) (s : State) :
    (b = expected ∧ feedConstant expected bad b s = report .incomplete causeNone (acceptByte b s)) ∨
    (b ≠ expected ∧ b = SOF ∧ feedConstant expected bad b s = report .invalid (bad ||| resync) (startFrame s)) ∨
    (b ≠ expected ∧ b ≠ SOF ∧ feedConstant expected bad b s = report .invalid bad (toIdle s)) := by
  unfold feedConstant
  split_ifs <;> simp_all

/-- The three endings of a frame's tenth byte (42_codec_feed.md R127, R128, R130). -/
theorem feedEnd_cases (b : Byte) (s : State) :
    (b = EOF ∧ rbChecksumOk (storeEnd b s).rb = true ∧
      feedEnd b s =
        report (.complete (rbFields (storeEnd b s).rb)) causeNone (latchFrame (toIdle (storeEnd b s)))) ∨
    (b = SOF ∧
      feedEnd b s =
        report .invalid (endCause false (rbChecksumOk (storeEnd b s).rb) true) (startFrame (storeEnd b s))) ∨
    (¬(b = EOF ∧ rbChecksumOk (storeEnd b s).rb = true) ∧ b ≠ SOF ∧
      feedEnd b s =
        report .invalid (endCause (b == EOF) (rbChecksumOk (storeEnd b s).rb) false) (toIdle (storeEnd b s))) := by
  unfold feedEnd
  dsimp only
  split_ifs with h1 h2
  · simp only [Bool.and_eq_true, beq_iff_eq] at h1
    exact .inl ⟨h1.1, h1.2, rfl⟩
  · subst h2
    exact .inr (.inl ⟨rfl, rfl⟩)
  · simp only [Bool.and_eq_true, beq_iff_eq] at h1
    exact .inr (.inr ⟨h1, h2, rfl⟩)

/-! ## RXB -/

/-- Store, count and notify, and nothing else (43_ingest.md R150). -/
theorem receiveToBuffer_eq_next {b : Byte} {s t : State} :
    receiveToBuffer b s = .next t ↔
      s.wp < s.cfg.capacity ∧
        t = notifyMilestones (countByte (storeByte s.wp b s)) := by
  unfold receiveToBuffer
  rw [andThen_eq_next]
  constructor
  · rintro ⟨u, hu, ht⟩
    obtain ⟨hlt, rfl⟩ := bufWrite_eq_next.1 hu
    exact ⟨hlt, (Host.Outcome.next.inj ht).symm⟩
  · rintro ⟨hlt, rfl⟩
    exact ⟨_, bufWrite_eq_next.2 ⟨hlt, rfl⟩, rfl⟩

/-- One received byte, by the mode (43_ingest.md R150, R151). -/
theorem receiveByte_eq_next {b : Byte} {s t : State} :
    receiveByte b s = .next t ↔
      (s.cfg.mode = .push ∧ t = feedByte b s) ∨
      (s.cfg.mode = .drain ∧ s.wp < s.cfg.capacity ∧
        t = notifyMilestones (countByte (storeByte s.wp b s))) := by
  unfold receiveByte
  cases s.cfg.mode
  · simp [eq_comm]
  · simpa using receiveToBuffer_eq_next

/-- A received byte is never refused or lost where the parameters are legal (43_ingest.md R150). -/
theorem receiveByte_completes {s : State} (h : s.cfg.wf) (b : Byte) : ∃ t, receiveByte b s = .next t := by
  cases hm : s.cfg.mode
  · exact ⟨_, receiveByte_eq_next.2 (.inl ⟨hm, rfl⟩)⟩
  · exact ⟨_, receiveByte_eq_next.2 (.inr ⟨hm, wp_lt h, rfl⟩)⟩

/-- What a received byte leaves alone in either mode. -/
theorem receiveByte_frame {b : Byte} {s t : State} (h : receiveByte b s = .next t) :
    t.cfg = s.cfg ∧ t.rc = s.rc ∧ t.rt = s.rt ∧ t.co = s.co ∧ t.expect = s.expect ∧ t.cnt = s.cnt ∧
      t.schedule = s.schedule ∧ t.between = s.between := by
  obtain ⟨-, rfl⟩ | ⟨-, -, rfl⟩ := receiveByte_eq_next.1 h <;> simp

/-! ## The Coordinator -/

/-- SEND's two answers (44_coordinator.md R180, R186). -/
theorem sendCommand_eq_next {cmd p1 p2 : Byte} {s t : State} :
    sendCommand cmd p1 p2 s = .next t ↔
      (s.co = .awaitingReply ∧ t = emitResult .busy s) ∨
      (s.co = .idle ∧ t = emitResult .sent (transmit (encodeFrame cmd p1 p2) s)) := by
  unfold sendCommand; cases s.co <;> simp [eq_comm]

/-- REQ's two answers (44_coordinator.md R181, R186). -/
theorem requestCommand_eq_next {cmd p1 p2 : Byte} {timeout : Nat} {s t : State} :
    requestCommand cmd p1 p2 timeout s = .next t ↔
      (s.co = .awaitingReply ∧ t = emitResult .busy s) ∨
      (s.co = .idle ∧ t = emitResult .issued (transmit (encodeFrame cmd p1 p2) (createPending cmd timeout s))) := by
  unfold requestCommand; cases s.co <;> simp [eq_comm]

/-- POLL's four answers (44_coordinator.md R182). -/
theorem execPoll_eq_next {s t : State} :
    execPoll s = .next t ↔
      (s.co = .idle ∧ t = emitResult .notWaiting s) ∨
      (s.co = .awaitingReply ∧ s.rdy = true ∧ s.last.cmd = s.expect ∧
        t = emitResult (.reply s.last.p1 s.last.p2) (consumePending (clearReady s))) ∨
      (s.co = .awaitingReply ∧ ¬(s.rdy = true ∧ s.last.cmd = s.expect) ∧ s.cnt = 0 ∧
        t = emitResult .timedOut (timeoutActions (clearReady s))) ∨
      (s.co = .awaitingReply ∧ ¬(s.rdy = true ∧ s.last.cmd = s.expect) ∧ s.cnt ≠ 0 ∧
        t = emitResult .waiting (clearReady s)) := by
  unfold execPoll
  rw [takeLatched_eq]
  cases hco : s.co
  · simp [next_eq_next_iff, -Host.Outcome.next.injEq]
  · cases hr : s.rdy
    · unfold pollUnanswered
      by_cases hc : s.cnt = 0 <;> simp [hc, next_eq_next_iff, -Host.Outcome.next.injEq]
    · unfold pollUnanswered
      by_cases hm : s.last.cmd = s.expect <;> by_cases hc : s.cnt = 0 <;>
        simp [hm, hc, next_eq_next_iff, -Host.Outcome.next.injEq]

theorem execTake_eq_next {s t : State} :
    execTake s = .next t ↔ t = emitResult (.taken (if s.rdy then some s.last else none)) (clearReady s) := by
  unfold execTake
  rw [takeLatched_eq]
  exact next_eq_next_iff

theorem execTick_eq_next {s t : State} :
    execTick s = .next t ↔ t = if s.co = .awaitingReply then { s with cnt := s.cnt - 1 } else s := by
  unfold execTick; cases s.co <;> simp [eq_comm]

/-! ## Steps of other agents inside a drain -/

/-- A step of another agent completes, and never touches the read cursor or the inputs still to come. -/
theorem runIntruder_completes {s : State} (h : s.cfg.wf) (e : Intruder) : ∃ t, runIntruder e s = .next t := by
  cases e with
  | rxb b => exact receiveByte_completes h b
  | idle => exact ⟨_, rfl⟩
  | enc cmd p1 p2 => exact ⟨_, rfl⟩
  | tx f => exact ⟨_, rfl⟩
  | take => exact ⟨_, execTake_eq_next.2 rfl⟩
  | clrs => exact ⟨_, rfl⟩
  | send cmd p1 p2 => cases hco : s.co <;> exact ⟨_, sendCommand_eq_next.2 (by simp [hco]; rfl)⟩
  | req cmd p1 p2 timeout => cases hco : s.co <;> exact ⟨_, requestCommand_eq_next.2 (by simp [hco]; rfl)⟩
  | poll =>
    show ∃ t, execPoll s = .next t
    cases hco : s.co
    · exact ⟨_, execPoll_eq_next.2 (.inl ⟨hco, rfl⟩)⟩
    · by_cases hm : s.rdy = true ∧ s.last.cmd = s.expect
      · exact ⟨_, execPoll_eq_next.2 (.inr (.inl ⟨hco, hm.1, hm.2, rfl⟩))⟩
      · by_cases hc : s.cnt = 0
        · exact ⟨_, execPoll_eq_next.2 (.inr (.inr (.inl ⟨hco, hm, hc, rfl⟩)))⟩
        · exact ⟨_, execPoll_eq_next.2 (.inr (.inr (.inr ⟨hco, hm, hc, rfl⟩)))⟩
  | tick => exact ⟨_, execTick_eq_next.2 rfl⟩

theorem runIntruder_frame {e : Intruder} {s t : State} (h : runIntruder e s = .next t) :
    t.cfg = s.cfg ∧ t.rc = s.rc ∧ t.rt = s.rt ∧ t.schedule = s.schedule ∧ t.between = s.between := by
  cases e with
  | rxb b => have := receiveByte_frame h; tauto
  | idle => cases h; simp
  | enc cmd p1 p2 => cases h; simp
  | tx f => cases h; simp
  | take => rw [execTake_eq_next.1 h]; simp
  | clrs => cases h; simp
  | send cmd p1 p2 => obtain ⟨-, rfl⟩ | ⟨-, rfl⟩ := sendCommand_eq_next.1 h <;> simp
  | req cmd p1 p2 timeout => obtain ⟨-, rfl⟩ | ⟨-, rfl⟩ := requestCommand_eq_next.1 h <;> simp
  | poll => obtain ⟨-, rfl⟩ | ⟨-, -, -, rfl⟩ | ⟨-, -, -, rfl⟩ | ⟨-, -, -, rfl⟩ := execPoll_eq_next.1 h <;> simp
  | tick => rw [execTick_eq_next.1 h]; split <;> simp

/-- A step of another agent has the meaning of its operation. -/
theorem runIntruder_eq_exec (e : Intruder) (s : State) : runIntruder e s = exec e.operation s := by
  cases e <;> rfl

theorem forEach_runIntruder (slot : List Intruder) (s : State) :
    forEach runIntruder slot s = performAll (slot.map Intruder.operation) s := by
  induction slot generalizing s with
  | nil => rfl
  | cons e slot ih =>
    rw [List.map_cons, performAll, forEach_cons, forEach_cons, runIntruder_eq_exec]
    exact congrArg _ (funext ih)

/-- An interleaving point runs the steps of the next slot, if there is one. -/
theorem interleave_eq_next {s t : State} :
    interleave s = .next t ↔
      (s.between = [] ∧ t = s) ∨
      ∃ slot rest, s.between = slot :: rest ∧ forEach runIntruder slot (setBetween rest s) = .next t := by
  unfold interleave
  cases s.between <;> simp [eq_comm]

theorem interleave_completes {s : State} (h : s.cfg.wf) : ∃ t, interleave s = .next t ∧ t.cfg = s.cfg := by
  cases hb : s.between with
  | nil => exact ⟨s, interleave_eq_next.2 (.inl ⟨hb, rfl⟩), rfl⟩
  | cons slot rest =>
    obtain ⟨t, ht, hcfg⟩ := forEach_completes (f := runIntruder) (as := slot) (P := fun u => u.cfg = s.cfg)
      (fun e _ u hu => by
        obtain ⟨v, hv⟩ := runIntruder_completes (s := u) (by rw [hu]; exact h) e
        exact ⟨v, hv, (runIntruder_frame hv).1.trans hu⟩)
      (s := setBetween rest s) rfl
    exact ⟨t, interleave_eq_next.2 (.inr ⟨slot, rest, hb, ht⟩), hcfg⟩

theorem interleave_frame {s t : State} (h : interleave s = .next t) :
    t.cfg = s.cfg ∧ t.rc = s.rc ∧ t.rt = s.rt ∧ t.schedule = s.schedule := by
  obtain ⟨-, rfl⟩ | ⟨slot, rest, -, ht⟩ := interleave_eq_next.1 h
  · exact ⟨rfl, rfl, rfl, rfl⟩
  · exact forEach_keeps (f := runIntruder) (P := fun u => u.cfg = s.cfg ∧ u.rc = s.rc ∧ u.rt = s.rt ∧ u.schedule = s.schedule)
      (fun e _ u v hu hv => by
        obtain ⟨h1, h2, h3, h4, -⟩ := runIntruder_frame hv
        exact ⟨h1.trans hu.1, h2.trans hu.2.1, h3.trans hu.2.2.1, h4.trans hu.2.2.2⟩)
      (s := setBetween rest s) ⟨rfl, rfl, rfl, rfl⟩ ht

/-! ## DRAIN and SVC -/

theorem readAndFeed_eq_next {i : Nat} {s t : State} :
    readAndFeed i s = .next t ↔
      i < s.cfg.capacity ∧ t = feedByte (memGet s.buf i) (countRead s) := by
  unfold readAndFeed bufRead
  split_ifs with h <;> simp [h, eq_comm]

/-- The read of one byte: the steps that fall before it, and then the byte that stands there at that instant
(20_memory.md R60, R62). -/
theorem drainByte_eq_next {i : Nat} {s t : State} :
    drainByte i s = .next t ↔
      ∃ u, interleave s = .next u ∧ i < u.cfg.capacity ∧
        t = feedByte (memGet u.buf i) (countRead u) := by
  unfold drainByte
  rw [andThen_eq_next]
  exact exists_congr fun u => and_congr_right fun _ => readAndFeed_eq_next

/-- A drain to the snapshot `w` (43_ingest.md R154). -/
theorem drainTo_eq_next {w : Nat} {s t : State} :
    drainTo w s = .next t ↔
      (w = s.rc ∧ t = s) ∨
      (w ≠ s.rc ∧ ∃ u v, forEach drainByte (drainIndices s.cfg.capacity s.rc w) s = .next u ∧
        interleave u = .next v ∧ t = setReadCursor w v) := by
  unfold drainTo
  split_ifs with h
  · simp [h, eq_comm]
  · simp only [h, false_and, false_or, not_false_eq_true, true_and, andThen_eq_next, ne_eq]
    constructor
    · rintro ⟨u, hu, v, hv, ht⟩
      exact ⟨u, v, hu, hv, (Host.Outcome.next.inj ht).symm⟩
    · rintro ⟨u, v, hu, hv, rfl⟩
      exact ⟨u, hu, v, hv, rfl⟩

theorem drainBuffer_eq_next {s t : State} :
    drainBuffer s = .next t ↔ (s.cfg.mode = .push ∧ t = s) ∨ (s.cfg.mode = .drain ∧ drainTo s.wp s = .next t) := by
  unfold drainBuffer
  cases s.cfg.mode <;> simp [eq_comm]

/-- The sub-steps of a service and the points between them (43_ingest.md R156). -/
theorem service_eq_next {s t : State} :
    service s = .next t ↔
      ∃ u v w, interleave (clearPending s) = .next u ∧ drainBuffer u = .next v ∧ interleave v = .next w ∧
        t = if s.pend.idle then lineIdleReset w else w := by
  unfold service
  simp only [andThen_eq_next, Host.Outcome.next.injEq]
  constructor
  · rintro ⟨u, hu, v, hv, w, hw, ht⟩
    exact ⟨u, v, w, hu, hv, hw, ht.symm⟩
  · rintro ⟨u, v, w, hu, hv, hw, rfl⟩
    exact ⟨u, hu, v, hv, w, hw, rfl⟩

theorem execSvc_eq_next {s t : State} :
    execSvc s = .next t ↔ (pendAny s.pend = true ∧ service s = .next t) ∨ (pendAny s.pend = false ∧ t = s) := by
  unfold execSvc
  cases pendAny s.pend <;> simp [eq_comm]

/-! ## Fetching and stepping -/

theorem stepsAlone_eq_true {mode : Mode} {i : Instr} :
    stepsAlone mode i = true ↔ ∀ b, i = .feed b → mode = .push := by
  cases mode <;> cases i <;> simp [stepsAlone]

theorem decode_nil : decode [] = .error .truncated := rfl

theorem classify_ne_rest {mode : Mode} {d : Decoded} : classify mode d ≠ .rest := by
  unfold classify
  rcases d with e | ⟨i, rest⟩
  · simp
  · simp only; split_ifs <;> simp

theorem classify_eq_run {mode : Mode} {d : Decoded} {i : Instr} {rest : List Byte} :
    classify mode d = .run i rest ↔ d = .ok (i, rest) ∧ stepsAlone mode i = true := by
  unfold classify
  rcases d with e | ⟨j, r⟩
  · simp
  · by_cases ha : stepsAlone mode j = true
    · simp only [ha, if_true, Fetched.run.injEq, Except.ok.injEq, Prod.mk.injEq, iff_self_and]
      rintro ⟨rfl, -⟩
      exact ha
    · simp only [ha, Bool.false_eq_true, if_false, reduceCtorEq, Except.ok.injEq, Prod.mk.injEq, false_iff, not_and]
      rintro ⟨rfl, -⟩
      exact ha

theorem fetch_eq_rest {s : State} : fetch s = .rest ↔ s.schedule = [] := by
  unfold fetch
  cases s.schedule <;> simp [classify_ne_rest]

theorem fetch_eq_run {s : State} {i : Instr} {rest : List Byte} :
    fetch s = .run i rest ↔ decode s.schedule = .ok (i, rest) ∧ stepsAlone s.cfg.mode i = true := by
  unfold fetch
  cases s.schedule with
  | nil => simp [decode_nil]
  | cons b bs => exact classify_eq_run

/-- All that a step can do when it answers a next state: rest, or run one operation that may be a step. -/
theorem step_eq_next {s t : State} :
    step s = .next t ↔
      (s.schedule = [] ∧ t = s) ∨
      ∃ i rest, decode s.schedule = .ok (i, rest) ∧ stepsAlone s.cfg.mode i = true ∧
        exec i { s with schedule := rest } = .next t := by
  simp only [← fetch_eq_rest, ← and_assoc, ← fetch_eq_run]
  unfold step
  cases fetch s <;> simp [eq_comm]

end Sys2Proof.Machine
end

