-- ==== Sys2Proof/Laws/PerInstr.lean ====
section
/-!
SUPPORT. Statements about every instruction, one lemma per constructor.
-/

namespace Sys2Proof.Laws

/-- The operation number of a row (30_encoding.md R86). A FRAME80 word is opened by the start marker `7E`, whose low
nibble is the unused number `E`. -/
def opNumber : Instr → Nat
  | .rst => 0x0
  | .enc _ _ _ => 0x1
  | .tx _ => 0x2
  | .feed _ => 0x3
  | .take => 0x4
  | .clrs => 0x5
  | .rxb _ => 0x6
  | .idle => 0x7
  | .drain => 0x8
  | .svc => 0x9
  | .send _ _ _ => 0xA
  | .req _ _ _ _ => 0xB
  | .poll => 0xC
  | .tick => 0xD
  | .frame _ _ _ _ _ _ _ => 0xE
  | .initSource _ _ _ _ _ => 0xE
  | .setVolume _ _ _ _ _ => 0xE
  | .pause _ _ _ _ _ => 0xE
  | .resume _ _ _ _ _ => 0xE
  | .playFolder _ _ _ _ _ => 0xE
  | .loopFolder _ _ _ _ _ => 0xE
  | .queryFolderCount _ _ _ _ _ _ => 0xE

/-- The bytes of an instruction are opened by one whose low nibble is its row's operation number, and whose high nibble
is 0 unless the word is a frame. -/
def OpensWithOpNumber.Statement (i : Instr) : Prop :=
  ∃ b rest, encode i = b :: rest ∧ b.toNat % 16 = opNumber i ∧ (opNumber i < 0xE → b.toNat / 16 = 0)

theorem OpensWithOpNumber.rst : OpensWithOpNumber.Statement .rst :=
  ⟨_, _, rfl, rfl, fun _ => rfl⟩
theorem OpensWithOpNumber.enc (cmd p1 p2 : Byte) : OpensWithOpNumber.Statement (.enc cmd p1 p2) :=
  ⟨_, _, rfl, rfl, fun _ => rfl⟩
theorem OpensWithOpNumber.tx (f : Frame) : OpensWithOpNumber.Statement (.tx f) :=
  ⟨_, _, rfl, rfl, fun _ => rfl⟩
theorem OpensWithOpNumber.feed (b : Byte) : OpensWithOpNumber.Statement (.feed b) :=
  ⟨_, _, rfl, rfl, fun _ => rfl⟩
theorem OpensWithOpNumber.take : OpensWithOpNumber.Statement .take :=
  ⟨_, _, rfl, rfl, fun _ => rfl⟩
theorem OpensWithOpNumber.clrs : OpensWithOpNumber.Statement .clrs :=
  ⟨_, _, rfl, rfl, fun _ => rfl⟩
theorem OpensWithOpNumber.rxb (b : Byte) : OpensWithOpNumber.Statement (.rxb b) :=
  ⟨_, _, rfl, rfl, fun _ => rfl⟩
theorem OpensWithOpNumber.idle : OpensWithOpNumber.Statement .idle :=
  ⟨_, _, rfl, rfl, fun _ => rfl⟩
theorem OpensWithOpNumber.drain : OpensWithOpNumber.Statement .drain :=
  ⟨_, _, rfl, rfl, fun _ => rfl⟩
theorem OpensWithOpNumber.svc : OpensWithOpNumber.Statement .svc :=
  ⟨_, _, rfl, rfl, fun _ => rfl⟩
theorem OpensWithOpNumber.send (cmd p1 p2 : Byte) : OpensWithOpNumber.Statement (.send cmd p1 p2) :=
  ⟨_, _, rfl, rfl, fun _ => rfl⟩
theorem OpensWithOpNumber.req (cmd p1 p2 : Byte) (timeout : Nat) : OpensWithOpNumber.Statement (.req cmd p1 p2 timeout) :=
  ⟨_, _, rfl, rfl, fun _ => rfl⟩
theorem OpensWithOpNumber.poll : OpensWithOpNumber.Statement .poll :=
  ⟨_, _, rfl, rfl, fun _ => rfl⟩
theorem OpensWithOpNumber.tick : OpensWithOpNumber.Statement .tick :=
  ⟨_, _, rfl, rfl, fun _ => rfl⟩
theorem OpensWithOpNumber.frame (dir : Direction) (cmd fb p1 p2 ckH ckL : Byte) : OpensWithOpNumber.Statement (.frame dir cmd fb p1 p2 ckH ckL) := by
  cases dir <;> exact ⟨_, _, rfl, rfl, fun h => absurd h (Nat.lt_irrefl 14)⟩
theorem OpensWithOpNumber.initSource (fb p1 p2 ckH ckL : Byte) : OpensWithOpNumber.Statement (.initSource fb p1 p2 ckH ckL) :=
  ⟨_, _, rfl, rfl, fun h => absurd h (Nat.lt_irrefl 14)⟩
theorem OpensWithOpNumber.setVolume (fb p1 p2 ckH ckL : Byte) : OpensWithOpNumber.Statement (.setVolume fb p1 p2 ckH ckL) :=
  ⟨_, _, rfl, rfl, fun h => absurd h (Nat.lt_irrefl 14)⟩
theorem OpensWithOpNumber.pause (fb p1 p2 ckH ckL : Byte) : OpensWithOpNumber.Statement (.pause fb p1 p2 ckH ckL) :=
  ⟨_, _, rfl, rfl, fun h => absurd h (Nat.lt_irrefl 14)⟩
theorem OpensWithOpNumber.resume (fb p1 p2 ckH ckL : Byte) : OpensWithOpNumber.Statement (.resume fb p1 p2 ckH ckL) :=
  ⟨_, _, rfl, rfl, fun h => absurd h (Nat.lt_irrefl 14)⟩
theorem OpensWithOpNumber.playFolder (fb p1 p2 ckH ckL : Byte) : OpensWithOpNumber.Statement (.playFolder fb p1 p2 ckH ckL) :=
  ⟨_, _, rfl, rfl, fun h => absurd h (Nat.lt_irrefl 14)⟩
theorem OpensWithOpNumber.loopFolder (fb p1 p2 ckH ckL : Byte) : OpensWithOpNumber.Statement (.loopFolder fb p1 p2 ckH ckL) :=
  ⟨_, _, rfl, rfl, fun h => absurd h (Nat.lt_irrefl 14)⟩
theorem OpensWithOpNumber.queryFolderCount (fb p1 p2 ckH ckL : Byte) (timeout : Nat) : OpensWithOpNumber.Statement (.queryFolderCount fb p1 p2 ckH ckL timeout) :=
  ⟨_, _, rfl, rfl, fun h => absurd h (Nat.lt_irrefl 14)⟩

end Sys2Proof.Laws
end

