-- ==== Sys2Proof/Tests/Slice0.lean ====
section
/-!
SUPPORT. The model's own tests: words written out from the spec's encodings, ill-formed terms, the spec's vectors
(spec/95_test_vectors.md) one operation at a time, and for every statement with hypotheses a state that meets them.
-/

namespace Sys2Proof.Tests

open Sys2Proof.Machine

/-! ## Words (30_encoding.md R73, R81, R86; operand bytes in the model's layout) -/

theorem test_decode_rst : decode [0x00#8] = .ok (.rst, []) := by decide
theorem test_decode_enc : decode [0x01#8, 0x0F#8, 0x15#8, 0x05#8] = .ok (.enc 0x0F#8 0x15#8 0x05#8, []) := by decide
theorem test_decode_tx :
    decode [0x02#8, 0x7E#8, 0xFF#8, 0x06#8, 0x0F#8, 0x00#8, 0x15#8, 0x05#8, 0xFE#8, 0xD2#8, 0xEF#8] =
      .ok (.tx { start := 0x7E#8, version := 0xFF#8, length := 0x06#8, command := 0x0F#8, feedback := 0x00#8,
                 param1 := 0x15#8, param2 := 0x05#8, ckHigh := 0xFE#8, ckLow := 0xD2#8, endMark := 0xEF#8 }, []) := by
  decide
theorem test_decode_feed : decode [0x03#8, 0x7E#8, 0x04#8] = .ok (.feed 0x7E#8, [0x04#8]) := by decide
theorem test_decode_take : decode [0x04#8] = .ok (.take, []) := by decide
theorem test_decode_clrs : decode [0x05#8] = .ok (.clrs, []) := by decide
theorem test_decode_rxb : decode [0x06#8, 0xEF#8] = .ok (.rxb 0xEF#8, []) := by decide
theorem test_decode_idle : decode [0x07#8] = .ok (.idle, []) := by decide
theorem test_decode_drain : decode [0x08#8] = .ok (.drain, []) := by decide
theorem test_decode_svc : decode [0x09#8] = .ok (.svc, []) := by decide
theorem test_decode_send : decode [0x0A#8, 0x0E#8, 0x01#8, 0x02#8] = .ok (.send 0x0E#8 0x01#8 0x02#8, []) := by decide
theorem test_decode_req :
    decode [0x0B#8, 0x4E#8, 0x00#8, 0x15#8, 0x83#8, 0x01#8, 0x0D#8] = .ok (.req 0x4E#8 0x00#8 0x15#8 131, [0x0D#8]) := by
  decide
theorem test_decode_poll : decode [0x0C#8] = .ok (.poll, []) := by decide
theorem test_decode_tick : decode [0x0D#8] = .ok (.tick, []) := by decide
/-- T1's layout with the code and bytes of vector F20: a frame received with a feedback byte. -/
theorem test_decode_frame :
    decode [0x7E#8, 0xFF#8, 0x06#8, 0x41#8, 0x01#8, 0x00#8, 0x00#8, 0xFE#8, 0xB9#8, 0xEF#8, 0x00#8] =
      .ok (.frame .inward 0x41#8 0x01#8 0x00#8 0x00#8 0xFE#8 0xB9#8, []) := by decide
/-- T14, the reply of 44_coordinator.md R194, as a frame that arrives. -/
theorem test_decode_frame_of_a_named_code :
    decode [0x7E#8, 0xFF#8, 0x06#8, 0x4E#8, 0x00#8, 0x00#8, 0x54#8, 0xFE#8, 0x59#8, 0xEF#8, 0x01#8] =
      .ok (.frame .inward 0x4E#8 0x00#8 0x00#8 0x54#8 0xFE#8 0x59#8, []) := by decide
/-- T7. -/
theorem test_decode_initSource :
    decode [0x7E#8, 0xFF#8, 0x06#8, 0x3F#8, 0x00#8, 0x00#8, 0x00#8, 0xFE#8, 0xBC#8, 0xEF#8, 0x00#8] =
      .ok (.initSource 0x00#8 0x00#8 0x00#8 0xFE#8 0xBC#8, []) := by decide
/-- T8. -/
theorem test_decode_setVolume :
    decode [0x7E#8, 0xFF#8, 0x06#8, 0x06#8, 0x00#8, 0x00#8, 0x14#8, 0xFE#8, 0xE1#8, 0xEF#8, 0x00#8] =
      .ok (.setVolume 0x00#8 0x00#8 0x14#8 0xFE#8 0xE1#8, []) := by decide
/-- T9. -/
theorem test_decode_pause :
    decode [0x7E#8, 0xFF#8, 0x06#8, 0x0E#8, 0x00#8, 0x00#8, 0x00#8, 0xFE#8, 0xED#8, 0xEF#8, 0x00#8] =
      .ok (.pause 0x00#8 0x00#8 0x00#8 0xFE#8 0xED#8, []) := by decide
/-- T10. -/
theorem test_decode_resume :
    decode [0x7E#8, 0xFF#8, 0x06#8, 0x0D#8, 0x00#8, 0x00#8, 0x00#8, 0xFE#8, 0xEE#8, 0xEF#8, 0x00#8] =
      .ok (.resume 0x00#8 0x00#8 0x00#8 0xFE#8 0xEE#8, []) := by decide
/-- T1. -/
theorem test_decode_playFolder :
    decode [0x7E#8, 0xFF#8, 0x06#8, 0x0F#8, 0x00#8, 0x15#8, 0x05#8, 0xFE#8, 0xD2#8, 0xEF#8, 0x00#8] =
      .ok (.playFolder 0x00#8 0x15#8 0x05#8 0xFE#8 0xD2#8, []) := by decide
/-- T12. -/
theorem test_decode_loopFolder :
    decode [0x7E#8, 0xFF#8, 0x06#8, 0x17#8, 0x00#8, 0x00#8, 0x01#8, 0xFE#8, 0xE3#8, 0xEF#8, 0x00#8] =
      .ok (.loopFolder 0x00#8 0x00#8 0x01#8 0xFE#8 0xE3#8, []) := by decide
/-- T13, with a timeout of 3 ticks. -/
theorem test_decode_queryFolderCount :
    decode [0x7E#8, 0xFF#8, 0x06#8, 0x4E#8, 0x00#8, 0x00#8, 0x15#8, 0xFE#8, 0x98#8, 0xEF#8, 0x00#8, 0x03#8] =
      .ok (.queryFolderCount 0x00#8 0x00#8 0x15#8 0xFE#8 0x98#8 3, []) := by decide

theorem test_decode_refuses_unused_op : decode [0x0E#8] = .error (.reservedOp 0x0E#8) := by decide
theorem test_decode_refuses_truncated : decode [0x06#8] = .error .truncated := by decide
theorem test_decode_refuses_wrong_version :
    decode [0x7E#8, 0xFE#8, 0x06#8, 0x0F#8, 0x00#8, 0x15#8, 0x05#8, 0xFE#8, 0xD2#8, 0xEF#8, 0x00#8] =
      .error .notAFrame := by decide
theorem test_decode_refuses_unknown_use :
    decode [0x7E#8, 0xFF#8, 0x06#8, 0x0F#8, 0x00#8, 0x15#8, 0x05#8, 0xFE#8, 0xD2#8, 0xEF#8, 0x03#8] =
      .error (.reservedUse 0x03#8) := by decide
/-- The match value of row FRAME (30_encoding.md R73), as the table numbers its bits. -/
theorem test_tableWord_frame :
    decodeTableWord 80 0x7EFF06000000000000EF =
      some (.frame .inward 0x00#8 0x00#8 0x00#8 0x00#8 0x00#8 0x00#8) := by decide
theorem test_tableWord_queryFolderCount :
    decodeTableWord 80 0x7EFF064E0000000000EF =
      some (.queryFolderCount 0x00#8 0x00#8 0x00#8 0x00#8 0x00#8 0) := by decide

/-! ## Ill-formed terms -/

theorem test_wellFormed_tx_checksum :
    (Instr.tx { start := 0x7E#8, version := 0xFF#8, length := 0x06#8, command := 0x0F#8, feedback := 0x00#8,
                param1 := 0x15#8, param2 := 0x05#8, ckHigh := 0xFF#8, ckLow := 0x00#8,
                endMark := 0xEF#8 }).wellFormed = false := by decide
theorem test_wellFormed_tx_marker :
    (Instr.tx { start := 0x7F#8, version := 0xFF#8, length := 0x06#8, command := 0x0F#8, feedback := 0x00#8,
                param1 := 0x15#8, param2 := 0x05#8, ckHigh := 0xFE#8, ckLow := 0xD2#8,
                endMark := 0xEF#8 }).wellFormed = false := by decide
theorem test_wellFormed_frame_outward :
    (Instr.frame .outward 0x0F#8 0x00#8 0x15#8 0x05#8 0xFF#8 0x00#8).wellFormed = false := by decide
theorem test_wellFormed_initSource_feedback :
    (Instr.initSource 0x01#8 0x00#8 0x00#8 0xFE#8 0xBB#8).wellFormed = false := by decide
theorem test_wellFormed_setVolume_checksum :
    (Instr.setVolume 0x00#8 0x00#8 0x14#8 0xFE#8 0xE0#8).wellFormed = false := by decide
theorem test_wellFormed_pause_checksum :
    (Instr.pause 0x00#8 0x00#8 0x00#8 0xFE#8 0xEE#8).wellFormed = false := by decide
theorem test_wellFormed_resume_checksum :
    (Instr.resume 0x00#8 0x00#8 0x00#8 0xFE#8 0xED#8).wellFormed = false := by decide
theorem test_wellFormed_playFolder_checksum :
    (Instr.playFolder 0x00#8 0x15#8 0x05#8 0xFF#8 0x00#8).wellFormed = false := by decide
theorem test_wellFormed_loopFolder_checksum :
    (Instr.loopFolder 0x00#8 0x00#8 0x01#8 0xFE#8 0xE2#8).wellFormed = false := by decide
theorem test_wellFormed_query_param1 :
    (Instr.queryFolderCount 0x00#8 0x01#8 0x14#8 0xFE#8 0x98#8 3).wellFormed = false := by decide

/-! ## The checksum (30_encoding.md R79; 95_test_vectors.md 2.1) -/

theorem test_csum_T1 : csum 0xFF#8 0x06#8 0x0F#8 0x00#8 0x15#8 0x05#8 = 0xFED2#16 := by decide
theorem test_csum_largest : csum 0xFF#8 0x06#8 0xFF#8 0xFF#8 0xFF#8 0xFF#8 = 0xFAFF#16 := by decide
theorem test_replyData_E2 : (replyData { cmd := 0x4E#8, fb := 0x00#8, p1 := 0x00#8, p2 := 0x54#8 }).toNat = 84 := by
  decide

/-! ## One operation on a small state -/

/-- The answer is a next state with the property. -/
def after (o : Out) (p : State → Bool) : Bool :=
  match o with
  | .next t => p t
  | .fault _ => false
  | .refused _ => false

/-- A reply buffer from its ten bytes. -/
def rbOf (b0 b1 b2 b3 b4 b5 b6 b7 b8 b9 : Byte) : ReplyBuffer :=
  { START := b0, VERSION := b1, LENGTH := b2, CMD := b3, FB := b4, P1 := b5, P2 := b6, CKH := b7, CKL := b8, END := b9 }

/-- A reset instance with `OFS` and RB given: the reconstructor inside a frame. -/
def inFrame (ofs : Fin 10) (rb : ReplyBuffer) : State := { State.reset with ofs := ofs, rb := rb }

/-- Nine bytes of T14, the reply that carries 84 (42_codec_feed.md R127, example). -/
def replyHeld : State :=
  inFrame 9 (rbOf 0x7E#8 0xFF#8 0x06#8 0x4E#8 0x00#8 0x00#8 0x54#8 0xFE#8 0x59#8 0x00#8)

/-- Nine bytes with the source's wrong checksum (42_codec_feed.md R128, example). -/
def wrongHeld : State :=
  inFrame 9 (rbOf 0x7E#8 0xFF#8 0x06#8 0x0F#8 0x00#8 0x15#8 0x05#8 0xFF#8 0x00#8 0x00#8)

/-- A request for 0x4E outstanding, with the reply 84 in the latch (44_coordinator.md R182, example). -/
def replyLatched : State :=
  { State.reset with
    co := .awaitingReply
    expect := 0x4E#8
    cnt := 3
    rdy := true
    last := { cmd := 0x4E#8, fb := 0x00#8, p1 := 0x00#8, p2 := 0x54#8 } }

/-- A request outstanding whose count has run out, with part of a reply held (95_test_vectors.md P3, step 6). -/
def expired : State := { replyLatched with rdy := false, cnt := 0, ofs := 4 }

/-- Vector I3 before its second SVC: six bytes unread, wrapped, `PEND = {FULL}`. -/
def wrapped : State :=
  { State.reset with
    buf := [(0, 0x0E#8), (3, 0xA3#8), (4, 0xA4#8), (5, 0xA5#8), (6, 0xA6#8), (7, 0x7E#8), (8, 0xFF#8), (9, 0x06#8)]
    rem := 7
    rc := 7
    wt := 13
    rt := 7
    pend := { half := false, full := true, idle := false } }

/-- The same, with a byte that arrives before the third read and one after the last (20_memory.md R60). -/
def wrappedAndArriving : State :=
  { wrapped with between := [[], [], [.rxb 0x11#8], [], [], [], [.rxb 0x22#8]] }

/-- I5: `N` = 16, five bytes of a frame unread, line idle pending. -/
def partialAtIdle : State :=
  { State.resetWith { capacity := 16, mode := .drain } with
    buf := [(0, 0x7E#8), (1, 0xFF#8), (2, 0x06#8), (3, 0x0F#8)]
    rem := 11
    wt := 5
    pend := { half := false, full := false, idle := true } }

/-- A PUSH instance right after reset. -/
def pushed : State := State.resetWith { capacity := 10, mode := .push }

theorem test_rst : after (exec .rst wrapped) (fun t =>
    t.rem == 10 && t.rc == 0 && t.pend == pendNone && t.wt == 0 && t.rt == 0 && t.buf == wrapped.buf) = true := by
  decide
/-- T5: the checksum's low byte is the start marker. -/
theorem test_enc_T5 : after (exec (.enc 0x0F#8 0x01#8 0x6D#8) State.reset) (fun t =>
    t.trace == [.result (.encoded
      { start := 0x7E#8, version := 0xFF#8, length := 0x06#8, command := 0x0F#8, feedback := 0x00#8, param1 := 0x01#8,
        param2 := 0x6D#8, ckHigh := 0xFE#8, ckLow := 0x7E#8, endMark := 0xEF#8 })]) = true := by decide
theorem test_tx : after (exec (.tx (framePattern 0x0F#8 0x00#8 0x15#8 0x05#8 0xFE#8 0xD2#8)) State.reset) (fun t =>
    t.trace == [.tx 0x7E#8, .tx 0xFF#8, .tx 0x06#8, .tx 0x0F#8, .tx 0x00#8, .tx 0x15#8, .tx 0x05#8, .tx 0xFE#8,
                .tx 0xD2#8, .tx 0xEF#8]) = true := by decide
theorem test_feed_completes : after (exec (.feed 0xEF#8) replyHeld) (fun t =>
    t.ofs == 0 && t.rdy && t.last == { cmd := 0x4E#8, fb := 0x00#8, p1 := 0x00#8, p2 := 0x54#8 } &&
      t.res == .complete && t.cause == 0x00#5) = true := by decide
theorem test_feed_wrong_checksum : after (exec (.feed 0xEF#8) wrongHeld) (fun t =>
    t.ofs == 0 && t.res == .invalid && t.cause == 0x01#5 && t.status == 0x01#7 && !t.rdy) = true := by decide
theorem test_take : after (exec .take replyLatched) (fun t => !t.rdy &&
    t.trace == [.result (.taken (some { cmd := 0x4E#8, fb := 0x00#8, p1 := 0x00#8, p2 := 0x54#8 }))]) = true := by
  decide
theorem test_clrs : after (exec .clrs { State.reset with status := 0x40#7 }) (fun t => t.status == 0x00#7) = true := by
  decide
/-- I1. -/
theorem test_rxb_I1 : after (exec (.rxb 0x7E#8) State.reset) (fun t =>
    t.buf == [(0, 0x7E#8)] && t.rem == 9 && t.wp == 1 && t.pend == pendNone) = true := by decide
/-- The tenth byte of I2. -/
theorem test_rxb_I2_wraps : after (exec (.rxb 0x01#8) { State.reset with rem := 1, wt := 9 }) (fun t =>
    t.rem == 10 && t.wp == 0 && t.pend.full && !t.pend.half && t.bufAt 9 == 0x01#8) = true := by decide
theorem test_idle : after (exec .idle State.reset) (fun t => t.pend.idle && !t.pend.half) = true := by decide
/-- I3 by DRAIN: indices 7, 8, 9, 0, 1, 2. -/
theorem test_drain_I3 : after (exec .drain wrapped) (fun t =>
    t.rc == 3 && t.ofs == 6 && t.rt == 13 && t.pend.full &&
      t.rb.CMD == 0x0E#8 && t.trace.length == 6) = true := by decide
theorem test_drain_interleaved : after (exec .drain wrappedAndArriving) (fun t =>
    t.rc == 3 && t.ofs == 6 && t.rb.CMD == 0x0E#8 && t.wp == 5 && t.bufAt 3 == 0x11#8 && t.bufAt 4 == 0x22#8) = true := by
  decide
/-- U16 (93_implementation_defined.md): a POLL that times out between two reads; the rest of the frame is noise. -/
theorem test_drain_timeout_inside :
    after (exec .drain { wrapped with co := .awaitingReply, cnt := 0, between := [[], [], [], [.poll]] }) (fun t =>
      t.rc == 3 && t.ofs == 0 && t.co == .idle && t.status == 0x00#7 && t.rb.CMD == 0x00#8 &&
        t.trace.contains (.result .timedOut)) = true := by decide
/-- I3. -/
theorem test_svc_I3 : after (exec .svc wrapped) (fun t => t.rc == 3 && t.ofs == 6 && t.pend == pendNone) = true := by
  decide
/-- I5. -/
theorem test_svc_I5 : after (exec .svc partialAtIdle) (fun t =>
    t.rc == 5 && t.ofs == 0 && t.status == 0x20#7 && t.pend == pendNone && t.res == .incomplete) = true := by decide
/-- K1: T9 goes out. -/
theorem test_send_K1 : after (exec (.send 0x0E#8 0x00#8 0x00#8) State.reset) (fun t => t.co == .idle &&
    t.trace == [.tx 0x7E#8, .tx 0xFF#8, .tx 0x06#8, .tx 0x0E#8, .tx 0x00#8, .tx 0x00#8, .tx 0x00#8, .tx 0xFE#8,
                .tx 0xED#8, .tx 0xEF#8, .result .sent]) = true := by decide
/-- K3. -/
theorem test_send_K3 : after (exec (.send 0x0E#8 0x00#8 0x00#8) replyLatched) (fun t =>
    t == { replyLatched with trace := [.result .busy] }) = true := by decide
/-- K2. -/
theorem test_req_K2 : after (exec (.req 0x4E#8 0x00#8 0x15#8 3) State.reset) (fun t =>
    t.co == .awaitingReply && t.expect == 0x4E#8 && t.cnt == 3 && t.trace.length == 11 &&
      t.trace.getLast? == some (.result .issued)) = true := by decide
theorem test_poll_reply : after (exec .poll replyLatched) (fun t =>
    t.co == .idle && !t.rdy && t.trace == [.result (.reply 0x00#8 0x54#8)]) = true := by decide
/-- P3, step 6. -/
theorem test_poll_P3_timedOut : after (exec .poll expired) (fun t =>
    t.co == .idle && t.ofs == 0 && !t.rdy && t.trace == [.result .timedOut]) = true := by decide
theorem test_tick : after (exec .tick replyLatched) (fun t => t.cnt == 2) = true := by decide
/-- K8, and a count that is already 0. -/
theorem test_tick_saturates : after (exec .tick expired) (fun t => t == expired) = true := by decide
/-- I8 by one word: T1 arriving in PUSH mode. -/
theorem test_frame_inward_push :
    after (exec (.frame .inward 0x0F#8 0x00#8 0x15#8 0x05#8 0xFE#8 0xD2#8) pushed) (fun t =>
      t.rdy && t.last == { cmd := 0x0F#8, fb := 0x00#8, p1 := 0x15#8, p2 := 0x05#8 } && t.status == 0x00#7 &&
        t.rem == 10) = true := by decide
/-- I9: T14 arriving in DRAIN mode, undrained. -/
theorem test_frame_inward_drain :
    after (exec (.frame .inward 0x4E#8 0x00#8 0x00#8 0x54#8 0xFE#8 0x59#8) State.reset) (fun t =>
      t.pend == { half := true, full := true, idle := false } && t.wp == 0 && t.ofs == 0 &&
        t.bufAt 3 == 0x4E#8) = true := by decide
/-- The frames of 44_coordinator.md R188 to R194: the last three bytes that go out. -/
def endsWith (o : Out) (h l : Byte) (r : OpResult) : Bool :=
  after o fun t => t.trace.drop (t.trace.length - 4) == [.tx h, .tx l, .tx 0xEF#8, .result r]
theorem test_initSource : endsWith (exec (.initSource 0x00#8 0x00#8 0x00#8 0xFE#8 0xBC#8) State.reset)
    0xFE#8 0xBC#8 .sent = true := by decide
theorem test_setVolume : endsWith (exec (.setVolume 0x00#8 0x00#8 0x14#8 0xFE#8 0xE1#8) State.reset)
    0xFE#8 0xE1#8 .sent = true := by decide
theorem test_pause : endsWith (exec (.pause 0x00#8 0x00#8 0x00#8 0xFE#8 0xED#8) State.reset)
    0xFE#8 0xED#8 .sent = true := by decide
theorem test_resume : endsWith (exec (.resume 0x00#8 0x00#8 0x00#8 0xFE#8 0xEE#8) State.reset)
    0xFE#8 0xEE#8 .sent = true := by decide
theorem test_playFolder : endsWith (exec (.playFolder 0x00#8 0x15#8 0x05#8 0xFE#8 0xD2#8) State.reset)
    0xFE#8 0xD2#8 .sent = true := by decide
theorem test_loopFolder : endsWith (exec (.loopFolder 0x00#8 0x00#8 0x01#8 0xFE#8 0xE3#8) State.reset)
    0xFE#8 0xE3#8 .sent = true := by decide
theorem test_queryFolderCount :
    endsWith (exec (.queryFolderCount 0x00#8 0x00#8 0x15#8 0xFE#8 0x98#8 3) State.reset)
      0xFE#8 0x98#8 .issued = true := by decide
theorem test_step_runs_a_table_word :
    after (step (State.reset.withFetchWord 8 0x7)) (fun t => t.pend.idle && t.schedule == []) = true := by decide
/-- 10_state.md R40: a FEED by itself is no step in `MODE = DRAIN`. -/
theorem test_step_refuses_feed_outside_a_drain :
    (match step { State.reset with schedule := encode (.feed 0x7E#8) } with
    | .refused r => r == .notEnabled (.feed 0x7E#8)
    | _ => false) = true := by decide
/-- 43_ingest.md R151: in `MODE = PUSH` it is the RXB of its byte. -/
theorem test_step_feed_is_rxb_in_push_mode :
    after (step { pushed with schedule := encode (.feed 0x7E#8) }) (fun t =>
      t.ofs == 1 && t.rb.START == 0x7E#8 && t.schedule == [] && after (exec (.rxb 0x7E#8) pushed) (· == t)) = true := by decide
theorem test_step_runs_the_feed_word :
    after (step (State.reset.withFetchWord 8 0x3)) (fun t =>
      t.trace == [.result (.fed .incomplete)] && t.schedule == []) = true := by decide
theorem test_step_refuses_an_unused_op : (match step { State.reset with schedule := [0x0F#8] } with
    | .refused r => r == .undecodable (.reservedOp 0x0F#8)
    | _ => false) = true := by decide

/-! ## A state that meets the hypotheses of each statement -/

theorem test_witness_FeedInIdle : State.reset.ofs = 0 := by decide
theorem test_witness_FeedInVersion : (inFrame 1 replyHeld.rb).ofs = 1 := by decide
theorem test_witness_FeedInLength : (inFrame 2 replyHeld.rb).ofs = 2 := by decide
theorem test_witness_FeedInTheVariableFields_first :
    3 ≤ (inFrame 3 replyHeld.rb).ofs.val ∧ (inFrame 3 replyHeld.rb).ofs.val ≤ 8 := by decide
theorem test_witness_FeedInTheVariableFields_last :
    3 ≤ (inFrame 8 replyHeld.rb).ofs.val ∧ (inFrame 8 replyHeld.rb).ofs.val ≤ 8 := by decide
theorem test_witness_FeedCompletesAValidFrame : replyHeld.ofs = 9 ∧ replyHeld.checksumMatches := by decide
theorem test_witness_FeedRejectsAnInvalidFrame_checksum :
    wrongHeld.ofs = 9 ∧ ¬(0xEF#8 = 0xEF#8 ∧ wrongHeld.checksumMatches) ∧ (0xEF#8 : Byte) ≠ 0x7E#8 := by decide
theorem test_witness_FeedRejectsAnInvalidFrame_end :
    replyHeld.ofs = 9 ∧ ¬((0xEE#8 : Byte) = 0xEF#8 ∧ replyHeld.checksumMatches) ∧ (0xEE#8 : Byte) ≠ 0x7E#8 := by decide
theorem test_witness_FeedRejectsAnInvalidFrame_both :
    wrongHeld.ofs = 9 ∧ ¬((0xEE#8 : Byte) = 0xEF#8 ∧ wrongHeld.checksumMatches) ∧ (0xEE#8 : Byte) ≠ 0x7E#8 := by decide
theorem test_witness_FeedResynchronisesAtTheEnd :
    replyHeld.ofs = 9 ∧ replyHeld.checksumMatches ∧ wrongHeld.ofs = 9 ∧ ¬wrongHeld.checksumMatches := by decide
theorem test_witness_ResynchronisationOnlyAtConstantOffsets_one :
    ∃ t, exec (.feed 0x7E#8) (inFrame 1 replyHeld.rb) = .next t ∧ t.res = .invalid := ⟨_, rfl, rfl⟩
theorem test_witness_ResynchronisationOnlyAtConstantOffsets_eight :
    ∃ t, exec (.feed 0x7E#8) (inFrame 8 replyHeld.rb) = .next t ∧ t.res = .incomplete := ⟨_, rfl, rfl⟩
theorem test_witness_ResynchronisationOnlyAtConstantOffsets_nine :
    ∃ t, exec (.feed 0x7E#8) replyHeld = .next t ∧ t.res = .invalid := ⟨_, rfl, rfl⟩
theorem test_witness_OnlyValidFramesComplete :
    replyHeld.HeadInv ∧ ∃ t, exec (.feed 0xEF#8) replyHeld = .next t ∧ t.res = .complete :=
  ⟨by decide, _, rfl, rfl⟩
theorem test_witness_EncodedFrameIsReconstructed :
    State.reset.ofs = 0 ∧ ∃ u f, exec (.enc 0x7E#8 0x7E#8 0xEF#8) State.reset = .next u ∧
      u.trace = State.reset.trace ++ [.result (.encoded f)] := ⟨rfl, _, _, rfl, rfl⟩
theorem test_witness_OneFlippedBitNeverCompletes : State.reset.ofs = 0 := by decide
theorem test_witness_TakeReturnsTheLatchedFrame : replyLatched.rdy = true ∧ expired.rdy = false := by decide
theorem test_witness_RxbStoresCountsAndNotifies_wraps :
    ({ State.reset with rem := 1, wt := 9 } : State).cfg.mode = .drain ∧ Config.default.wf ∧
      1 ≤ ({ State.reset with rem := 1, wt := 9 } : State).rem ∧ Memory.wf State.reset.buf = true := by decide
theorem test_witness_RxbStoresCountsAndNotifies_full :
    wrapped.cfg.mode = .drain ∧ wrapped.cfg.wf ∧ 1 ≤ wrapped.rem ∧ wrapped.rem ≤ wrapped.cfg.capacity ∧
      Memory.wf wrapped.buf = true := by decide
theorem test_witness_RxbInPushModeFeeds : pushed.cfg.mode = .push := by decide
theorem test_witness_DrainWithNothingNewChangesNothing :
    ({ State.reset with rem := 7, rc := 3 } : State).wp = 3 := by decide
theorem test_witness_DrainFeedsTheUnreadBytesInOrder_wrapped :
    wrapped.cfg.mode = .drain ∧ wrapped.between = [] ∧ wrapped.cfg.wf ∧ 1 ≤ wrapped.rem ∧
      wrapped.rem ≤ wrapped.cfg.capacity ∧ wrapped.wp < wrapped.rc := by decide
theorem test_witness_DrainFeedsTheUnreadBytesInOrder_linear :
    partialAtIdle.cfg.mode = .drain ∧ partialAtIdle.between = [] ∧ partialAtIdle.cfg.wf ∧ 1 ≤ partialAtIdle.rem ∧
      partialAtIdle.rem ≤ partialAtIdle.cfg.capacity ∧ partialAtIdle.wp > partialAtIdle.rc := by decide
theorem test_witness_DrainFeedsAllUnreadBytesUnderInterleaving :
    wrappedAndArriving.Inv ∧ wrappedAndArriving.cfg.mode = .drain ∧ wrappedAndArriving.unread = 6 ∧
      wrappedAndArriving.wp ≠ wrappedAndArriving.rc := by decide
theorem test_witness_DrainFeedsAllUnreadBytesUnderInterleaving_nothing_new :
    State.reset.Inv ∧ State.reset.cfg.mode = .drain ∧ State.reset.wp = State.reset.rc := by decide
theorem test_witness_SvcDrainsThenResetsOnLineIdle_milestone :
    wrapped.between = [] ∧ wrapped.cfg.wf ∧ wrapped.pend.full = true ∧ wrapped.pend.idle = false := by decide
theorem test_witness_SvcDrainsThenResetsOnLineIdle_idle :
    partialAtIdle.between = [] ∧ partialAtIdle.cfg.wf ∧ partialAtIdle.pend.idle = true := by decide
theorem test_witness_SvcCompletesUnderInterleaving :
    wrappedAndArriving.Inv ∧ pendAny wrappedAndArriving.pend = true ∧ partialAtIdle.Inv ∧
      pendAny partialAtIdle.pend = true ∧ partialAtIdle.pend.idle = true := by decide
theorem test_witness_MilestonesHaveTheSameService : wrapped.between = [] ∧ wrapped.cfg.wf := by decide
theorem test_witness_SvcWithNothingPendingPasses :
    replyHeld.pend = { half := false, full := false, idle := false } := by decide
theorem test_witness_DrainIsAtomicWithoutOverrun :
    wrappedAndArriving.Inv ∧ wrappedAndArriving.cfg.mode = .drain ∧ wrappedAndArriving.wp ≠ wrappedAndArriving.rc ∧
      wrappedAndArriving.between =
        ([[], [], [0x11#8], [], [], [], [0x22#8]] : List (List Byte)).map (fun slot => slot.map Intruder.rxb) ++ [] ∧
      ([[], [], [0x11#8], [], [], [], [0x22#8]] : List (List Byte)).length = wrappedAndArriving.unread + 1 ∧
      ∀ j, j ≤ wrappedAndArriving.unread →
        wrappedAndArriving.wt +
            ((([[], [], [0x11#8], [], [], [], [0x22#8]] : List (List Byte)).take (j + 1)).map List.length).sum ≤
          wrappedAndArriving.rt + j + (wrappedAndArriving.cfg.capacity - 1) := by decide
theorem test_witness_BufferedBytesAreFedAsInPushMode :
    ({ wrapped with rc := 3, rt := 13 } : State).Inv ∧ wrapped.cfg.mode = .drain ∧ wrapped.between = [] ∧
      wrapped.wp = 3 ∧ ([0x7E#8, 0xFF#8, 0x06#8, 0x4E#8, 0x00#8, 0x00#8, 0x54#8, 0xFE#8, 0x59#8] : List Byte).length + 1 ≤
        wrapped.cfg.capacity := by decide
theorem test_witness_CapacityManyUnreadBytesLookLikeNone :
    ({ wrapped with rc := 3, rt := 13 } : State).Inv ∧ wrapped.cfg.mode = .drain ∧ wrapped.wp = 3 ∧
      (List.replicate 10 0x7E#8).length = wrapped.cfg.capacity := by decide
theorem test_witness_SendAndRequest_both_answers : State.reset.co = .idle ∧ replyLatched.co = .awaitingReply := by decide
theorem test_witness_PollAnswersByTheLatchAndTheCount :
    State.reset.co = .idle ∧ (replyLatched.rdy = true ∧ replyLatched.last.cmd = replyLatched.expect) ∧ expired.cnt = 0 ∧
      ({ expired with cnt := 1 } : State).cnt ≠ 0 := by decide
theorem test_witness_TimeoutComesAtTheTimeoutthTick : State.reset.co = .idle ∧ wrapped.co = .idle := by decide
theorem test_witness_RequestAfterATimeoutIsAnswered :
    ({ expired with cfg := { capacity := 10, mode := .push } } : State).co = .awaitingReply ∧
      ∃ t, exec .poll { expired with cfg := { capacity := 10, mode := .push } } = .next t ∧ t.co = .idle ∧
        t.trace = expired.trace ++ [.result .timedOut] := ⟨rfl, _, rfl, rfl, rfl⟩
/-- In `MODE = DRAIN` the ten bytes of T14 in two bursts, the first of the `N - 1` bytes that fit. -/
theorem test_witness_RequestAfterATimeoutIsAnswered_drain :
    let f := frameOfFields { cmd := 0x4E#8, fb := 0x00#8, p1 := 0x00#8, p2 := 0x54#8 }
    let s : State := { expired with rb := rbOf 0x7E#8 0xFF#8 0x06#8 0x4E#8 0#8 0#8 0#8 0#8 0#8 0#8 }
    s.cfg.mode = .drain ∧ s.Inv ∧ s.between = [] ∧ s.wp = s.rc ∧ s.co = .awaitingReply ∧
      [(frameBytes f).take 9, (frameBytes f).drop 9].flatten = frameBytes f ∧
      (∀ burst ∈ [(frameBytes f).take 9, (frameBytes f).drop 9], burst.length < s.cfg.capacity) ∧
      after (exec .poll s) (fun t => t.co == .idle && t.trace == s.trace ++ [.result .timedOut]) = true := by decide
theorem test_witness_WellFormedCommandWordIsWhatGoesOut :
    (Instr.pause 0x00#8 0x00#8 0x00#8 0xFE#8 0xED#8).wellFormed = true ∧ State.reset.co = .idle ∧
      ∃ t, exec (.pause 0x00#8 0x00#8 0x00#8 0xFE#8 0xED#8) State.reset = .next t := ⟨by decide, rfl, _, rfl⟩
theorem test_witness_WellFormedCommandWordIsWhatGoesOut_query :
    (Instr.queryFolderCount 0x00#8 0x00#8 0x15#8 0xFE#8 0x98#8 3).wellFormed = true ∧ State.reset.co = .idle ∧
      ∃ t, exec (.queryFolderCount 0x00#8 0x00#8 0x15#8 0xFE#8 0x98#8 3) State.reset = .next t :=
  ⟨by decide, rfl, _, rfl⟩
theorem test_witness_FrameArrivesByteByByte : wrapped.cfg.wf ∧ pushed.cfg.wf := by decide
theorem test_witness_EveryWellFormedFrameIsAccepted :
    pushed.cfg.mode = .push ∧ pushed.ofs = 0 ∧
      (0xFD#8 : Byte).toNat * 256 + (0x02#8 : Byte).toNat =
        65536 - (0xFF + 0x06 + (0x7E#8 : Byte).toNat + (0x7F#8 : Byte).toNat + (0x7E#8 : Byte).toNat +
          (0x7E#8 : Byte).toNat) := by decide
theorem test_witness_NoOperationStopsTheBlock : ({ State.reset with cfg := ⟨2, .drain⟩ } : State).cfg.wf := by decide
theorem test_witness_NoStepChangesTheConfiguration : ∃ t, step (wrapped.withFetchWord 8 0x9) = .next t := ⟨_, rfl⟩
theorem test_witness_OnlyTheReceiveEngineWritesTheBuffer :
    receives .drain = false ∧ wrapped.between = [] ∧ ∃ t, exec .drain wrapped = .next t := ⟨rfl, rfl, _, rfl⟩
theorem test_witness_OnlyTheDrainEngineWritesTheReadCursor :
    drains (.rxb 0x01#8) = false ∧ (.rxb 0x01#8 : Instr) ≠ .rst ∧ ∃ t, exec (.rxb 0x01#8) wrapped = .next t :=
  ⟨rfl, by decide, _, rfl⟩
theorem test_witness_OnlyFeedWritesTheResult :
    receives .poll = false ∧ drains .poll = false ∧ Instr.poll ≠ .rst ∧ (∀ b, Instr.poll ≠ .feed b) ∧
      ∃ t, exec .poll expired = .next t := ⟨rfl, rfl, by decide, (fun _ => by simp), _, rfl⟩
theorem test_witness_StatusFlagsAreSticky :
    Instr.drain ≠ .clrs ∧ Instr.drain ≠ .rst ∧
      (∀ slot ∈ ({ wrappedAndArriving with status := 0x40#7 } : State).between, Intruder.clrs ∉ slot) ∧
      ∃ t, exec .drain { wrappedAndArriving with status := 0x40#7 } = .next t :=
  ⟨by decide, by decide, by decide, _, rfl⟩
theorem test_witness_BlockLeavesTheCoordinatorAlone :
    replyLatched.between = [] ∧ drains .svc = true ∧ ∃ t, exec .svc replyLatched = .next t := ⟨rfl, rfl, _, rfl⟩
theorem test_witness_ResetSatisfiesTheInvariant : Config.default.wf := by decide
theorem test_witness_EveryStepKeepsTheInvariant :
    ({ wrappedAndArriving with schedule := [0x09#8] } : State).Inv ∧
      ∃ t, step { wrappedAndArriving with schedule := [0x09#8] } = .next t := ⟨by decide, _, rfl⟩
theorem test_witness_StepRunsTheDecodedOperation :
    decode ({ wrapped with schedule := [0x06#8, 0x01#8, 0x0D#8] } : State).schedule = .ok (.rxb 0x01#8, [0x0D#8]) := by
  decide
theorem test_witness_StepRunsTheDecodedOperation_feed :
    decode ({ pushed with schedule := [0x03#8, 0x7E#8] } : State).schedule = .ok (.feed 0x7E#8, []) ∧
      ∀ b, Instr.feed 0x7E#8 = .feed b → pushed.cfg.mode = .push := ⟨by decide, fun _ _ => rfl⟩
theorem test_witness_RcnNeverStepsOnItsOwn_feed :
    decode ({ State.reset with schedule := [0x03#8, 0x7E#8] } : State).schedule = .ok (.feed 0x7E#8, []) ∧
      State.reset.cfg.mode = .drain ∧
      decode ({ pushed with schedule := [0x03#8, 0x7E#8] } : State).schedule = .ok (.feed 0x7E#8, []) ∧
      pushed.cfg.mode = .push := by decide
theorem test_witness_RcnNeverStepsOnItsOwn_other :
    decode ({ wrapped with schedule := [0x06#8, 0x7E#8] } : State).schedule = .ok (.rxb 0x7E#8, []) ∧
      drains (.rxb 0x7E#8) = false ∧ Instr.rxb 0x7E#8 ≠ .rst ∧ wrapped.cfg.mode = .drain ∧
      ∃ t, step { wrapped with schedule := [0x06#8, 0x7E#8] } = .next t :=
  ⟨by decide, rfl, by decide, rfl, _, rfl⟩
theorem test_witness_RcnNeverStepsOnItsOwn_push :
    decode ({ pushed with schedule := [0x07#8] } : State).schedule = .ok (.idle, []) ∧ drains .idle = false ∧
      Instr.idle ≠ .rst ∧ receives .idle = false ∧ (∀ b, Instr.idle ≠ .feed b) ∧
      ∃ t, step { pushed with schedule := [0x07#8] } = .next t :=
  ⟨by decide, rfl, by decide, rfl, (fun _ => by simp), _, rfl⟩
theorem test_witness_StepRestsOrRefuses_unused_op :
    0xE ≤ (0x0E#8 : Byte).toNat ∧ (0x0E#8 : Byte) ≠ 0x7E#8 ∧ 0xE ≤ (0xFF#8 : Byte).toNat ∧ (0xFF#8 : Byte) ≠ 0x7E#8 ∧
      decode [0x06#8] = .error .truncated := by decide

end Sys2Proof.Tests
end

