-- ==== Sys2Proof/Certificates/Slice0/Proofs10State.lean ====
section
/-!
CERTIFICATE. The statements of 10_state.md: what reset leaves (R42), and that no step changes the configuration (R33),
shown first for the operations that run others' steps, then for every operation, then for `step`.
-/

namespace Sys2Proof.Machine

/-! ## Reset -/

/-- After reset no byte of the buffer's current pass has been received (10_state.md R28, R42). -/
@[simp] theorem resetWith_wp (c : Config) : (State.resetWith c).wp = 0 := by
  change (c.capacity - c.capacity) % c.capacity = 0
  rw [Nat.sub_self, Nat.zero_mod]

/-- Settles O1. -/
theorem resetLeavesAnIdleBlock : Obligations.ResetLeavesAnIdleBlock := by
  intro c
  have hwp : (State.resetWith c).wp = 0 := resetWith_wp c
  exact ⟨rfl, hwp, rfl, rfl, rfl, rfl, rfl, rfl, rfl, rfl, rfl, rfl, rfl⟩

/-! ## The configuration stays (10_state.md R33) -/

theorem sendCommand_keeps_cfg {cmd p1 p2 : Byte} {s t : State} (h : sendCommand cmd p1 p2 s = .next t) :
    t.cfg = s.cfg := by
  obtain ⟨-, rfl⟩ | ⟨-, rfl⟩ := sendCommand_eq_next.1 h <;> simp

theorem requestCommand_keeps_cfg {cmd p1 p2 : Byte} {timeout : Nat} {s t : State}
    (h : requestCommand cmd p1 p2 timeout s = .next t) : t.cfg = s.cfg := by
  obtain ⟨-, rfl⟩ | ⟨-, rfl⟩ := requestCommand_eq_next.1 h <;> simp

theorem drainByte_keeps_cfg {i : Nat} {s t : State} (h : drainByte i s = .next t) : t.cfg = s.cfg := by
  obtain ⟨u, hu, -, rfl⟩ := drainByte_eq_next.1 h
  simpa using (interleave_frame hu).1

theorem drainTo_keeps_cfg {w : Nat} {s t : State} (h : drainTo w s = .next t) : t.cfg = s.cfg := by
  obtain ⟨-, rfl⟩ | ⟨-, u, v, hu, hv, rfl⟩ := drainTo_eq_next.1 h
  · rfl
  · have hreads : u.cfg = s.cfg :=
      forEach_keeps (P := fun x => x.cfg = s.cfg) (fun _ _ _ _ hx hy => (drainByte_keeps_cfg hy).trans hx) rfl hu
    exact (interleave_frame hv).1.trans hreads

theorem drainBuffer_keeps_cfg {s t : State} (h : drainBuffer s = .next t) : t.cfg = s.cfg := by
  obtain ⟨-, rfl⟩ | ⟨-, hd⟩ := drainBuffer_eq_next.1 h
  · rfl
  · exact drainTo_keeps_cfg hd

theorem service_keeps_cfg {s t : State} (h : service s = .next t) : t.cfg = s.cfg := by
  obtain ⟨u, v, w, hu, hv, hw, rfl⟩ := service_eq_next.1 h
  have hbody : w.cfg = s.cfg :=
    calc w.cfg = v.cfg := (interleave_frame hw).1
      _ = u.cfg := drainBuffer_keeps_cfg hv
      _ = s.cfg := (interleave_frame hu).1
  split
  · exact (lineIdleReset_cfg w).trans hbody
  · exact hbody

theorem execSvc_keeps_cfg {s t : State} (h : execSvc s = .next t) : t.cfg = s.cfg := by
  obtain ⟨-, hs⟩ | ⟨-, rfl⟩ := execSvc_eq_next.1 h
  · exact service_keeps_cfg hs
  · rfl

theorem execFrame_keeps_cfg {dir : Direction} {cmd fb p1 p2 ckH ckL : Byte} {s t : State}
    (h : execFrame dir cmd fb p1 p2 ckH ckL s = .next t) : t.cfg = s.cfg := by
  cases dir with
  | inward =>
    exact forEach_keeps (P := fun x => x.cfg = s.cfg) (fun _ _ _ _ hx hy => (receiveByte_frame hy).1.trans hx) rfl h
  | outward => cases h; simp

/-- The operations that another agent may perform inside a drain go by `runIntruder_frame`; what is left is RST, FEED,
the drain engine and the words. -/
theorem exec_keeps_cfg {i : Instr} {s t : State} (h : exec i s = .next t) : t.cfg = s.cfg := by
  have agent (e : Intruder) (he : exec e.operation s = .next t) : t.cfg = s.cfg :=
    (runIntruder_frame ((runIntruder_eq_exec e s).trans he)).1
  cases i with
  | rst => cases h; rfl
  | feed b => cases h; exact feedByte_cfg b s
  | drain => exact drainBuffer_keeps_cfg h
  | svc => exact execSvc_keeps_cfg h
  | frame => exact execFrame_keeps_cfg h
  | enc cmd p1 p2 => exact agent (.enc cmd p1 p2) h
  | tx f => exact agent (.tx f) h
  | take => exact agent .take h
  | clrs => exact agent .clrs h
  | rxb b => exact agent (.rxb b) h
  | idle => exact agent .idle h
  | send cmd p1 p2 => exact agent (.send cmd p1 p2) h
  | req cmd p1 p2 timeout => exact agent (.req cmd p1 p2 timeout) h
  | poll => exact agent .poll h
  | tick => exact agent .tick h
  | initSource | setVolume | pause | resume | playFolder | loopFolder => exact sendCommand_keeps_cfg h
  | queryFolderCount => exact requestCommand_keeps_cfg h

/-- Settles O48: a step rests, or runs one operation on the state with the schedule moved on. -/
theorem noStepChangesTheConfiguration : Obligations.NoStepChangesTheConfiguration := by
  intro s t h
  obtain ⟨-, rfl⟩ | ⟨i, rest, -, -, hexec⟩ := step_eq_next.1 h
  · rfl
  · have hcfg : t.cfg = ({ s with schedule := rest } : State).cfg := exec_keeps_cfg hexec
    exact hcfg

end Sys2Proof.Machine
end

section
/-!
CERTIFICATE. The statements of 30_encoding.md: the range of the checksum and of its two bytes (R77), the two forms of its
test (R78), and what the bits of CAUSE say (R88), by the offset and the byte of the FEED step that wrote them.
-/

namespace Sys2Proof.Machine

/-! ## Pairs of bytes and the checksum, in plain numbers -/

@[simp] theorem bePair_toNat (hi lo : Byte) : (bePair hi lo).toNat = hi.toNat * 256 + lo.toNat :=
  Nat.mod_eq_of_lt (by omega)

@[simp] theorem highByte_toNat (c : Word16) : (highByte c).toNat = c.toNat / 256 :=
  Nat.mod_eq_of_lt (by omega)

@[simp] theorem lowByte_toNat (c : Word16) : (lowByte c).toNat = c.toNat % 256 :=
  Nat.mod_eq_of_lt (by omega)

theorem csum_toNat (ver len cmd fb p1 p2 : Byte) :
    (csum ver len cmd fb p1 p2).toNat =
      (65536 - (ver.toNat + len.toNat + cmd.toNat + fb.toNat + p1.toNat + p2.toNat)) % 65536 := rfl

/-- With the constants of a well-formed frame the reduction never acts (30_encoding.md R76, R77). -/
theorem csum_frame_toNat (cmd fb p1 p2 : Byte) :
    (csum VER LEN cmd fb p1 p2).toNat = 0xFEFB - (cmd.toNat + fb.toNat + p1.toNat + p2.toNat) := by
  have hver : VER.toNat = 0xFF := rfl
  have hlen : LEN.toNat = 0x06 := rfl
  rw [csum_toNat]
  omega

/-! ## The range of the checksum (30_encoding.md R77) -/

theorem csum_frame_range (cmd fb p1 p2 : Byte) :
    0xFAFF ≤ (csum VER LEN cmd fb p1 p2).toNat ∧ (csum VER LEN cmd fb p1 p2).toNat ≤ 0xFEFB := by
  rw [csum_frame_toNat]
  omega

theorem highByte_mem_of_range {c : Word16} (hlo : 0xFAFF ≤ c.toNat) (hhi : c.toNat ≤ 0xFEFB) :
    highByte c ∈ [0xFA#8, 0xFB#8, 0xFC#8, 0xFD#8, 0xFE#8] := by
  simp only [List.mem_cons, List.not_mem_nil, or_false, ← BitVec.toNat_inj, highByte_toNat, BitVec.toNat_ofNat]
  omega

/-- With the other three fields 0, the code `0xFB - l` gives the low byte `l`: the number below `0xFEFB` by that much is
`0xFE00 + l` or, where the subtraction wraps, `0xFD00 + l`. -/
theorem lowByte_csum_frame (l : Byte) : lowByte (csum VER LEN (0xFB#8 - l) 0x00#8 0x00#8 0x00#8) = l := by
  apply BitVec.eq_of_toNat_eq
  rw [lowByte_toNat, csum_frame_toNat, BitVec.toNat_sub]
  simp only [BitVec.toNat_ofNat]
  omega

/-- Settles O3. -/
theorem checksumOfAFrameLiesInItsRange : Obligations.ChecksumOfAFrameLiesInItsRange := by
  refine ⟨fun cmd fb p1 p2 => ?_, by decide, by decide,
    fun l => ⟨0xFB#8 - l, 0x00#8, 0x00#8, 0x00#8, lowByte_csum_frame l⟩⟩
  obtain ⟨hlo, hhi⟩ := csum_frame_range cmd fb p1 p2
  exact ⟨hlo, hhi, highByte_mem_of_range hlo hhi⟩

/-! ## The test of a received checksum (30_encoding.md R78) -/

theorem checksumOk_iff {ver len cmd fb p1 p2 h l : Byte} :
    checksumOk ver len cmd fb p1 p2 h l = true ↔
      h.toNat * 256 + l.toNat =
        (65536 - (ver.toNat + len.toNat + cmd.toNat + fb.toNat + p1.toNat + p2.toNat)) % 65536 := by
  unfold checksumOk
  rw [beq_iff_eq, ← BitVec.toNat_inj, bePair_toNat, csum_toNat]

/-- A 16-bit number is the negation of a sum exactly when the two add up to 0 modulo 65536. -/
theorem eq_neg_mod_iff_add_mod_eq_zero {sum c : Nat} (hsum : sum ≤ 65536) (hc : c < 65536) :
    c = (65536 - sum) % 65536 ↔ (sum + c) % 65536 = 0 := by
  omega

/-- Settles O4: the second form is the first with the sum brought to the other side. -/
theorem checksumTestHasItsTwoForms : Obligations.ChecksumTestHasItsTwoForms := by
  intro ver len cmd fb p1 p2 h l
  exact ⟨checksumOk_iff, checksumOk_iff.trans (eq_neg_mod_iff_add_mod_eq_zero (by omega) (by omega))⟩

/-- The tenth byte is not covered: `chk_ok` is the same before and after it is stored (42_codec_feed.md R126). -/
theorem rbChecksumOk_storeEnd {b : Byte} {s : State} : rbChecksumOk (storeEnd b s).rb = true ↔ s.checksumMatches :=
  checksumOk_iff

/-! ## CAUSE is set exactly on Invalid (10_state.md R41, 30_encoding.md R88) -/

theorem report_valid_causeInv {r : FeedResult} (s : State) (hr : resOf r ≠ .invalid) :
    (report r causeNone s).CauseInv :=
  ⟨fun _ => rfl, fun h => absurd h hr⟩

theorem report_invalid_causeInv {c : BitVec 5} (s : State) (hc : c ∈ causeValues) : (report .invalid c s).CauseInv :=
  ⟨fun h => absurd rfl h, fun _ => hc⟩

theorem feedConstant_causeInv {expected : Byte} {bad : BitVec 5} (b : Byte) (s : State) (hbad : bad ∈ causeValues)
    (hresync : bad ||| resync ∈ causeValues) : (feedConstant expected bad b s).CauseInv := by
  obtain ⟨-, heq⟩ | ⟨-, -, heq⟩ | ⟨-, -, heq⟩ := feedConstant_cases expected bad b s <;> rw [heq]
  · exact report_valid_causeInv _ (by decide)
  · exact report_invalid_causeInv _ hresync
  · exact report_invalid_causeInv _ hbad

/-- A rejected frame fails a test, and a start marker is no end marker: the five causes of an Invalid at offset 9. -/
theorem endCause_mem_causeValues {endOk chkOk isMarker : Bool} (hfail : ¬(endOk = true ∧ chkOk = true))
    (hmarker : isMarker = true → endOk = false) : endCause endOk chkOk isMarker ∈ causeValues := by
  revert endOk chkOk isMarker
  decide

theorem feedEnd_causeInv (b : Byte) (s : State) : (feedEnd b s).CauseInv := by
  obtain ⟨-, -, heq⟩ | ⟨-, heq⟩ | ⟨hfail, -, heq⟩ := feedEnd_cases b s <;> rw [heq]
  · exact report_valid_causeInv _ ResCode.noConfusion
  · exact report_invalid_causeInv _ (endCause_mem_causeValues (by simp) fun _ => rfl)
  · exact report_invalid_causeInv _ (endCause_mem_causeValues (by simpa using hfail) (by simp))

theorem feedByte_causeInv (b : Byte) (s : State) : (feedByte b s).CauseInv := by
  obtain ⟨-, -, heq⟩ | ⟨-, -, heq⟩ | ⟨-, heq⟩ | ⟨-, heq⟩ | ⟨-, -, heq⟩ | ⟨-, heq⟩ := feedByte_cases b s <;> rw [heq]
  · exact report_valid_causeInv _ (by decide)
  · exact report_valid_causeInv _ (by decide)
  · exact feedConstant_causeInv b s (by decide) (by decide)
  · exact feedConstant_causeInv b s (by decide) (by decide)
  · exact report_valid_causeInv _ (by decide)
  · exact feedEnd_causeInv b s

theorem cause_ne_zero_iff {s : State} (h : s.CauseInv) : s.cause ≠ 0x00#5 ↔ s.res = .invalid := by
  obtain ⟨hvalid, hinvalid⟩ := h
  have hzero : 0x00#5 ∉ causeValues := by decide
  exact ⟨fun hc => by_contra fun hr => hc (hvalid hr), fun hr hc => hzero (hc ▸ hinvalid hr)⟩

/-! ## The bits of CAUSE (30_encoding.md R88) -/

/-- The cause whose bits 0 to 4, in this order, are set where the respective condition holds. -/
def causeBits (chk fin ver len marker : Bool) : BitVec 5 :=
  causeIf fin badEnd ||| causeIf chk badChk ||| causeIf ver badVer ||| causeIf len badLen ||| causeIf marker resync

theorem causeBits_getLsbD (chk fin ver len marker : Bool) :
    (causeBits chk fin ver len marker).getLsbD 0 = chk ∧ (causeBits chk fin ver len marker).getLsbD 1 = fin ∧
    (causeBits chk fin ver len marker).getLsbD 2 = ver ∧ (causeBits chk fin ver len marker).getLsbD 3 = len ∧
    (causeBits chk fin ver len marker).getLsbD 4 = marker := by
  revert chk fin ver len marker
  decide

/-- Where one constant other than the start marker is expected, any other byte is reported, a start marker with RESYNC
besides. -/
theorem feedConstant_cause {expected : Byte} (bad : BitVec 5) (b : Byte) (s : State) (hexp : expected ≠ SOF) :
    (feedConstant expected bad b s).cause = causeIf (b ≠ expected) bad ||| causeIf (b = SOF) resync := by
  obtain ⟨rfl, heq⟩ | ⟨hne, rfl, heq⟩ | ⟨hne, hsof, heq⟩ := feedConstant_cases expected bad b s <;> rw [heq]
  · simp [causeIf, causeNone, hexp]
  · simp [causeIf, hne]
  · simp [causeIf, causeNone, hne, hsof]

/-- The three endings at offset 9 report by one formula; for a completed frame it gives no cause. -/
theorem feedEnd_cause (b : Byte) (s : State) :
    (feedEnd b s).cause = endCause (b = EOF) (s.checksumMatches) (b = SOF) := by
  have hchk : rbChecksumOk (storeEnd b s).rb = decide s.checksumMatches :=
    Bool.eq_iff_iff.2 (rbChecksumOk_storeEnd.trans decide_eq_true_iff.symm)
  obtain ⟨rfl, hok, heq⟩ | ⟨rfl, heq⟩ | ⟨-, hsof, heq⟩ := feedEnd_cases b s <;> rw [heq, report_cause]
  · rw [← hchk, hok]; rfl
  · rw [← hchk]; rfl
  · simp only [hchk, hsof, decide_false]; rfl

/-- Each condition of R88 by itself, for every offset and byte at once. -/
theorem feedByte_cause (b : Byte) (s : State) :
    (feedByte b s).cause =
      causeBits (s.ofs = 9 ∧ ¬s.checksumMatches) (s.ofs = 9 ∧ b ≠ EOF) (s.ofs = 1 ∧ b ≠ VER) (s.ofs = 2 ∧ b ≠ LEN)
        ((s.ofs = 1 ∨ s.ofs = 2 ∨ s.ofs = 9) ∧ b = SOF) := by
  obtain ⟨h0, -, heq⟩ | ⟨h0, -, heq⟩ | ⟨h1, heq⟩ | ⟨h2, heq⟩ | ⟨hlo, hhi, heq⟩ | ⟨h9, heq⟩ := feedByte_cases b s <;>
    rw [heq]
  · simp [causeBits, causeIf, h0]
  · simp [causeBits, causeIf, h0]
  · rw [feedConstant_cause _ _ _ (by decide)]
    simp [causeBits, causeIf, causeNone, h1]
  · rw [feedConstant_cause _ _ _ (by decide)]
    simp [causeBits, causeIf, causeNone, h2]
  · have h1 : s.ofs ≠ 1 := by omega
    have h2 : s.ofs ≠ 2 := by omega
    have h9 : s.ofs ≠ 9 := by omega
    simp [causeBits, causeIf, h1, h2, h9]
  · rw [feedEnd_cause]
    simp [causeBits, endCause, causeIf, causeNone, h9]

/-- Settles O14: the bits by `feedByte_cause`, the rest by the part of R41 that speaks of CAUSE. -/
theorem causeSaysWhyAFeedIsInvalid : Obligations.CauseSaysWhyAFeedIsInvalid := by
  intro s b
  have hinv : (feedByte b s).CauseInv := feedByte_causeInv b s
  refine ⟨feedByte b s, rfl, ?_, ?_, ?_, ?_, ?_, cause_ne_zero_iff hinv, hinv.2⟩
  all_goals
    rw [feedByte_cause]
    simp only [causeBits_getLsbD, decide_eq_true_iff]

end Sys2Proof.Machine
end

section
/-!
CERTIFICATE. The statements of 41_codec_tx.md: ENC returns the frame of its operands (R100), and the bytes of that frame,
fed from `OFS = 0`, complete with them (R105). The second is shown for every well-formed frame: its
first nine bytes each fit their offset and are accepted into RB one by one, and the tenth completes.
-/

namespace Sys2Proof.Machine

/-! ## The frame that ENC builds (30_encoding.md R75, R76, R80) -/

theorem highByte_lowByte_toNat (c : Word16) : (highByte c).toNat * 256 + (lowByte c).toNat = c.toNat := by
  rw [highByte_toNat, lowByte_toNat]
  omega

@[simp] theorem bePair_highByte_lowByte (c : Word16) : bePair (highByte c) (lowByte c) = c :=
  BitVec.eq_of_toNat_eq ((bePair_toNat _ _).trans (highByte_lowByte_toNat c))

theorem frameWellFormed_iff {f : Frame} :
    frameWellFormed f = true ↔
      f.start = SOF ∧ f.version = VER ∧ f.length = LEN ∧ f.endMark = EOF ∧
        checksumOk f.version f.length f.command f.feedback f.param1 f.param2 f.ckHigh f.ckLow = true := by
  simp only [frameWellFormed, Bool.and_eq_true, beq_iff_eq, and_assoc]

theorem frameOfFields_wellFormed (g : FrameFields) : frameWellFormed (frameOfFields g) = true :=
  frameWellFormed_iff.2 ⟨rfl, rfl, rfl, rfl, beq_iff_eq.2 (bePair_highByte_lowByte _)⟩

theorem exec_enc_eq_next {cmd p1 p2 : Byte} {s t : State} :
    exec (.enc cmd p1 p2) s = .next t ↔ t = emitResult (.encoded (encodeFrame cmd p1 p2)) s :=
  next_eq_next_iff

/-- Settles O5: the two checksum bytes are the halves of R76's number. -/
theorem encReturnsTheEncodedFrame : Obligations.EncReturnsTheEncodedFrame := by
  intro cmd p1 p2 s
  refine ⟨highByte (csum VER LEN cmd 0x00#8 p1 p2), lowByte (csum VER LEN cmd 0x00#8 p1 p2), ?_, rfl⟩
  have hzero : (0x00#8 : Byte).toNat = 0 := rfl
  rw [highByte_lowByte_toNat, csum_frame_toNat, hzero]
  omega

/-! ## FEED of one byte that its offset accepts (42_codec_feed.md R121, R123 to R127) -/

/-- A byte that FEED accepts at an offset below 9: the constant where one is expected, any byte elsewhere. -/
def FitsAt (k : Nat) (b : Byte) : Prop := (k = 0 → b = SOF) ∧ (k = 1 → b = VER) ∧ (k = 2 → b = LEN)

theorem startFrame_eq_acceptByte {s : State} (h : s.ofs = 0) : startFrame s = acceptByte SOF s := by
  unfold startFrame acceptByte
  rw [h]
  rfl

theorem feedConstant_expected (b : Byte) (bad : BitVec 5) (s : State) :
    feedConstant b bad b s = report .incomplete causeNone (acceptByte b s) := if_pos rfl

theorem feedByte_of_fitsAt {b : Byte} {s : State} (hlt : s.ofs.val < 9) (hb : FitsAt s.ofs.val b) :
    feedByte b s = report .incomplete causeNone (acceptByte b s) := by
  obtain ⟨hsof, hver, hlen⟩ := hb
  obtain ⟨h0, rfl, heq⟩ | ⟨h0, hne, -⟩ | ⟨h1, heq⟩ | ⟨h2, heq⟩ | ⟨-, -, heq⟩ | ⟨h9, -⟩ := feedByte_cases b s
  · rw [heq, startFrame_eq_acceptByte h0]
  · exact absurd (hsof (congrArg Fin.val h0)) hne
  · obtain rfl := hver (congrArg Fin.val h1)
    rw [heq, feedConstant_expected]
  · obtain rfl := hlen (congrArg Fin.val h2)
    rw [heq, feedConstant_expected]
  · exact heq
  · exact absurd (congrArg Fin.val h9) (Nat.ne_of_lt hlt)

/-- The tenth byte of a frame whose checksum matches: the fields in RB are returned and latched. -/
theorem feedByte_completes {s : State} (h9 : s.ofs = 9) (hchk : s.checksumMatches) :
    feedByte EOF s = report (.complete (rbFields s.rb)) causeNone (latchFrame (toIdle (storeEnd EOF s))) := by
  have hend : feedByte EOF s = feedEnd EOF s := by simp [feedByte, h9]
  obtain ⟨-, -, heq⟩ | ⟨hsof, -⟩ | ⟨hfail, -, -⟩ := feedEnd_cases EOF s
  · exact hend.trans heq
  · exact absurd hsof (by decide)
  · exact absurd ⟨rfl, rbChecksumOk_storeEnd.2 hchk⟩ hfail

/-! ## FEED of bytes in a row -/

/-- The state after FEED of each byte of a list, in order. -/
def feedAll (bs : List Byte) (s : State) : State := bs.foldl (fun t b => feedByte b t) s

theorem feedAll_append_singleton (bs : List Byte) (b : Byte) (s : State) :
    feedAll (bs ++ [b]) s = feedByte b (feedAll bs s) := List.foldl_concat ..

theorem performAll_map_feed (bs : List Byte) (s : State) : performAll (bs.map .feed) s = .next (feedAll bs s) := by
  induction bs generalizing s with
  | nil => rfl
  | cons b bs ih => exact ih (feedByte b s)

/-- From `s`, at the start of a frame, the bytes `bs` were accepted one after another, and the state is now `t`. -/
structure Accepted (bs : List Byte) (s t : State) : Prop where
  ofs   : t.ofs.val = bs.length
  rb    : ∀ (j : Fin 10) (b : Byte), bs[j.val]? = some b → rbRead t.rb j = b
  trace : t.trace = s.trace ++ List.replicate bs.length (.result (.fed .incomplete))

theorem accepted_nil {s : State} (h : s.ofs = 0) : Accepted [] s s where
  ofs := congrArg Fin.val h
  rb := by simp
  trace := (List.append_nil _).symm

/-- One more fitting byte goes to the next register of RB and leaves the ones before it. -/
theorem Accepted.snoc {bs : List Byte} {b : Byte} {s t : State} (h : Accepted bs s t) (hlt : bs.length < 9)
    (hb : FitsAt bs.length b) : Accepted (bs ++ [b]) s (feedByte b t) := by
  rw [← h.ofs] at hlt hb
  have hstep : feedByte b t = report .incomplete causeNone (acceptByte b t) := feedByte_of_fitsAt hlt hb
  rw [hstep]
  refine ⟨?_, fun j c hj => ?_, ?_⟩
  · rw [report_ofs, acceptByte_ofs, Fin.val_add_one_of_lt hlt, h.ofs, List.length_append, List.length_singleton]
  · rw [report_rb, acceptByte_rb]
    by_cases hjk : j = t.ofs
    · subst hjk
      rw [h.ofs, List.getElem?_concat_length] at hj
      rw [rbRead_rbWrite_self, Option.some.inj hj]
    · rw [rbRead_rbWrite_ne t.rb b hjk]
      have hne : j.val ≠ bs.length := fun he => hjk (Fin.ext (he.trans h.ofs.symm))
      exact h.rb j c (by grind)
  · rw [report_trace, acceptByte_trace, h.trace, List.length_append, List.length_singleton, List.replicate_succ',
      List.append_assoc]

theorem feedAll_accepted {bs : List Byte} {s : State} (hs : s.ofs = 0) (hlen : bs.length ≤ 9)
    (hfit : ∀ k b, bs[k]? = some b → FitsAt k b) : Accepted bs s (feedAll bs s) := by
  induction bs using List.reverseRecOn with
  | nil => exact accepted_nil hs
  | append_singleton bs b ih =>
    rw [List.length_append, List.length_singleton] at hlen
    rw [feedAll_append_singleton]
    have hbefore : Accepted bs s (feedAll bs s) :=
      ih (by omega) fun k c hk => hfit k c (by grind)
    exact hbefore.snoc (by omega) (hfit bs.length b List.getElem?_concat_length)

/-! ## FEED of a frame (41_codec_tx.md R105) -/

/-- The nine bytes before the end marker. -/
def frameHead (f : Frame) : List Byte := (frameBytes f).take 9

theorem frameBytes_eq_head_append (f : Frame) : frameBytes f = frameHead f ++ [f.endMark] := rfl

theorem frameHead_fitsAt {f : Frame} (hstart : f.start = SOF) (hver : f.version = VER) (hlen : f.length = LEN)
    (k : Nat) (b : Byte) (h : (frameHead f)[k]? = some b) : FitsAt k b := by
  refine ⟨?_, ?_, ?_⟩ <;> rintro rfl <;> cases h
  · exact hstart
  · exact hver
  · exact hlen

/-- The registers that hold the first nine bytes of a frame. -/
theorem Accepted.rb_eq {f : Frame} {s t : State} (h : Accepted (frameHead f) s t) :
    t.rb = { START := f.start, VERSION := f.version, LENGTH := f.length, CMD := f.command, FB := f.feedback,
             P1 := f.param1, P2 := f.param2, CKH := f.ckHigh, CKL := f.ckLow, END := t.rb.END } :=
  (ReplyBuffer.mk.injEq ..).mpr ⟨h.rb 0 _ rfl, h.rb 1 _ rfl, h.rb 2 _ rfl, h.rb 3 _ rfl, h.rb 4 _ rfl, h.rb 5 _ rfl,
    h.rb 6 _ rfl, h.rb 7 _ rfl, h.rb 8 _ rfl, rfl⟩

/-- The variable fields of a frame. -/
def frameFields (f : Frame) : FrameFields := { cmd := f.command, fb := f.feedback, p1 := f.param1, p2 := f.param2 }

/-- A well-formed frame is accepted up to its last byte and then completes. -/
theorem feedAll_frameBytes {f : Frame} {s : State} (hs : s.ofs = 0) (hf : frameWellFormed f = true) :
    (feedAll (frameBytes f) s).trace =
        s.trace ++ List.replicate 9 (.result (.fed .incomplete)) ++ [.result (.fed (.complete (frameFields f)))] ∧
      (feedAll (frameBytes f) s).ofs = 0 ∧ (feedAll (frameBytes f) s).rdy = true ∧
      (feedAll (frameBytes f) s).last = frameFields f := by
  obtain ⟨hstart, hver, hlen, hend, hchk⟩ := frameWellFormed_iff.1 hf
  have hhead : Accepted (frameHead f) s (feedAll (frameHead f) s) :=
    feedAll_accepted hs (Nat.le_refl 9) (frameHead_fitsAt hstart hver hlen)
  rw [frameBytes_eq_head_append, feedAll_append_singleton, hend]
  generalize feedAll (frameHead f) s = t at hhead
  have hfields : rbFields t.rb = frameFields f := by rw [hhead.rb_eq]; rfl
  have hmatch : t.checksumMatches := by
    unfold State.checksumMatches
    rw [hhead.rb_eq]
    exact checksumOk_iff.1 hchk
  rw [feedByte_completes (Fin.ext hhead.ofs) hmatch, hfields]
  refine ⟨?_, rfl, rfl, hfields⟩
  rw [report_trace, latchFrame_trace, toIdle_trace, storeEnd_trace, hhead.trace]
  rfl

/-- Settles O18: what ENC emitted is a well-formed frame with the operands as its fields. -/
theorem encodedFrameIsReconstructed : Obligations.EncodedFrameIsReconstructed := by
  intro s u cmd p1 p2 f hs henc hout
  obtain rfl := exec_enc_eq_next.1 henc
  obtain rfl : encodeFrame cmd p1 p2 = f := by simpa using hout
  exact ⟨feedAll (frameBytes (encodeFrame cmd p1 p2)) s, performAll_map_feed (frameBytes (encodeFrame cmd p1 p2)) s,
    feedAll_frameBytes hs (frameOfFields_wellFormed _)⟩

end Sys2Proof.Machine
end

section
/-!
CERTIFICATE. The statements of 42_codec_feed.md on single steps: FEED at each offset (R121, R123 to R128, R130, R132), what
every FEED step writes besides RB and OFS (R122), TAKE (R131) and CLRS (R133).
-/

namespace Sys2Proof.Machine

/-! ## What FEED answers, by the offset -/

theorem exec_feed (b : Byte) (s : State) : exec (.feed b) s = .next (feedByte b s) := rfl

theorem feedByte_of_ofs_zero {s : State} (h : s.ofs = 0) (b : Byte) : feedByte b s = feedIdle b s := if_pos h

theorem feedByte_of_ofs_one {s : State} (h : s.ofs = 1) (b : Byte) : feedByte b s = feedConstant VER badVer b s := by
  simp [feedByte, h]

theorem feedByte_of_ofs_two {s : State} (h : s.ofs = 2) (b : Byte) : feedByte b s = feedConstant LEN badLen b s := by
  simp [feedByte, h]

theorem feedByte_of_ofs_nine {s : State} (h : s.ofs = 9) (b : Byte) : feedByte b s = feedEnd b s := by
  simp [feedByte, h]

/-! ## The report and the stores of a FEED step, written out (42_codec_feed.md R122) -/

@[simp] theorem statusOr_causeNone (status : BitVec 7) : statusOr status causeNone = status := BitVec.or_zero

/-- A report with no cause leaves STATUS. -/
theorem report_causeNone (r : FeedResult) (s : State) :
    report r causeNone s =
      { s with res := resOf r, cause := 0x00#5, trace := s.trace ++ [.result (.fed r)] } := by
  unfold report
  rw [statusOr_causeNone]
  rfl

theorem acceptByte_of_ofs {s : State} {k : Fin 10} (h : s.ofs = k) (b : Byte) :
    acceptByte b s = { s with rb := rbWrite s.rb k b, ofs := k + 1 } := by
  subst h
  rfl

/-! ## Every FEED step reports (42_codec_feed.md R122) -/

/-- State `t` is `s` after a FEED step with result `r`, whatever the step does to RB and OFS (42_codec_feed.md R122, with
R132 for LOST and the latch). -/
structure Reports (s : State) (r : FeedResult) (t : State) : Prop where
  frame : t = { s with
    rb := t.rb, ofs := t.ofs, last := t.last, rdy := t.rdy
    res := resOf r
    cause := t.cause
    status := (s.status ||| t.cause.setWidth 7) ||| (if resOf r = .complete ∧ s.rdy = true then 0x40#7 else 0x00#7)
    trace := s.trace ++ [.result (.fed r)] }
  cause : resOf r ≠ .invalid → t.cause = 0x00#5
  latch : resOf r ≠ .complete → t.last = s.last ∧ t.rdy = s.rdy

theorem reports_incomplete (s : State) (rb : ReplyBuffer) (ofs : Fin 10) :
    Reports s .incomplete (report .incomplete causeNone { s with rb := rb, ofs := ofs }) where
  frame := by simp [report_causeNone, resOf]
  cause _ := rfl
  latch _ := ⟨rfl, rfl⟩

theorem reports_invalid (s : State) (c : BitVec 5) (rb : ReplyBuffer) (ofs : Fin 10) :
    Reports s .invalid (report .invalid c { s with rb := rb, ofs := ofs }) where
  frame := by simp [report, emitResult, statusOr, resOf]
  cause h := absurd rfl h
  latch _ := ⟨rfl, rfl⟩

theorem reports_complete (s : State) (f : FrameFields) (rb : ReplyBuffer) (ofs : Fin 10) :
    Reports s (.complete f) (report (.complete f) causeNone (latchFrame { s with rb := rb, ofs := ofs })) where
  frame := by cases s.rdy <;> simp [report_causeNone, latchFrame, resOf, lost]
  cause _ := rfl
  latch h := absurd rfl h

theorem feedConstant_reports (expected : Byte) (bad : BitVec 5) (b : Byte) (s : State) :
    ∃ r, Reports s r (feedConstant expected bad b s) := by
  obtain ⟨-, heq⟩ | ⟨-, -, heq⟩ | ⟨-, -, heq⟩ := feedConstant_cases expected bad b s <;> rw [heq]
  · exact ⟨_, reports_incomplete s _ _⟩
  · exact ⟨_, reports_invalid s _ _ _⟩
  · exact ⟨_, reports_invalid s _ _ _⟩

theorem feedEnd_reports (b : Byte) (s : State) : ∃ r, Reports s r (feedEnd b s) := by
  obtain ⟨-, -, heq⟩ | ⟨-, heq⟩ | ⟨-, -, heq⟩ := feedEnd_cases b s <;> rw [heq]
  · exact ⟨_, reports_complete s _ _ _⟩
  · exact ⟨_, reports_invalid s _ _ _⟩
  · exact ⟨_, reports_invalid s _ _ _⟩

theorem feedByte_reports (b : Byte) (s : State) : ∃ r, Reports s r (feedByte b s) := by
  obtain ⟨-, -, heq⟩ | ⟨-, -, heq⟩ | ⟨-, heq⟩ | ⟨-, heq⟩ | ⟨-, -, heq⟩ | ⟨-, heq⟩ := feedByte_cases b s <;> rw [heq]
  · exact ⟨_, reports_incomplete s _ _⟩
  · exact ⟨_, reports_incomplete s s.rb s.ofs⟩
  · exact feedConstant_reports VER badVer b s
  · exact feedConstant_reports LEN badLen b s
  · exact ⟨_, reports_incomplete s _ _⟩
  · exact feedEnd_reports b s

/-- Settles O15: each branch of FEED is one of the three reports. -/
theorem everyFeedReportsItsResult : Obligations.EveryFeedReportsItsResult := by
  intro s b
  obtain ⟨r, hframe, hcause, hlatch⟩ := feedByte_reports b s
  exact ⟨feedByte b s, r, exec_feed b s, hframe, hcause, hlatch⟩

/-! ## FEED up to offset 8 (42_codec_feed.md R121, R123 to R125) -/

/-- Settles O7: only a start marker begins a frame. -/
theorem feedInIdle : Obligations.FeedInIdle := by
  intro s b h0
  rw [exec_feed, feedByte_of_ofs_zero h0, feedIdle, report_causeNone, report_causeNone]
  rfl

/-- FEED where one constant is expected, in full: Version at offset 1, Length at offset 2 (42_codec_feed.md R123, R124). -/
theorem feedConstant_eq {s : State} {k : Fin 10} (h : s.ofs = k) (expected : Byte) (bad : BitVec 5) (b : Byte) :
    feedConstant expected bad b s =
      if b = expected then
        { s with
          rb := rbWrite s.rb k expected
          ofs := k + 1
          res := .incomplete
          cause := 0x00#5
          trace := s.trace ++ [.result (.fed .incomplete)] }
      else if b = SOF then
        { s with
          rb := rbWrite s.rb 0 SOF
          ofs := 1
          res := .invalid
          cause := bad ||| resync
          status := statusOr s.status (bad ||| resync)
          trace := s.trace ++ [.result (.fed .invalid)] }
      else
        { s with
          ofs := 0
          res := .invalid
          cause := bad
          status := statusOr s.status bad
          trace := s.trace ++ [.result (.fed .invalid)] } := by
  obtain ⟨rfl, heq⟩ | ⟨hne, rfl, heq⟩ | ⟨hne, hsof, heq⟩ := feedConstant_cases expected bad b s <;> rw [heq]
  · rw [if_pos rfl, acceptByte_of_ofs h, report_causeNone]
    rfl
  · rw [if_neg hne, if_pos rfl]
    rfl
  · rw [if_neg hne, if_neg hsof]
    rfl

/-- Settles O8: `feedConstant_eq` at offset 1. -/
theorem feedInVersion : Obligations.FeedInVersion := by
  intro s b h1
  rw [exec_feed, feedByte_of_ofs_one h1, feedConstant_eq h1]
  rfl

/-- Settles O9: `feedConstant_eq` at offset 2. -/
theorem feedInLength : Obligations.FeedInLength := by
  intro s b h2
  rw [exec_feed, feedByte_of_ofs_two h2, feedConstant_eq h2]
  rfl

/-- At the offsets of the variable fields no byte value has a meaning of its own (42_codec_feed.md R125): each fits. -/
theorem feedByte_variable {s : State} (hlo : 3 ≤ s.ofs.val) (hhi : s.ofs.val ≤ 8) (b : Byte) :
    feedByte b s = report .incomplete causeNone (acceptByte b s) :=
  feedByte_of_fitsAt (by omega) ⟨by omega, by omega, by omega⟩

/-- Settles O10: `RB[OFS]` is the one register written, and below offset 9 the next offset does not wrap. -/
theorem feedInTheVariableFields : Obligations.FeedInTheVariableFields := by
  intro s b hlo hhi
  refine ⟨rbWrite s.rb s.ofs b, s.ofs + 1, rbRead_rbWrite_self s.rb s.ofs b,
    fun i hi => rbRead_rbWrite_ne s.rb b hi, Fin.val_add_one_of_lt (Nat.lt_succ_of_le hhi), ?_⟩
  rw [exec_feed, feedByte_variable hlo hhi, report_causeNone]
  rfl

/-! ## FEED of the tenth byte (42_codec_feed.md R126 to R128, R130, R132) -/

/-- Settles O11: storing the tenth byte leaves the four fields, so the latch gets them as they stood in RB. -/
theorem feedCompletesAValidFrame : Obligations.FeedCompletesAValidFrame := by
  intro s h9 hchk
  rw [exec_feed, feedByte_completes h9 hchk, report_causeNone]
  rfl

theorem rbChecksumOk_storeEnd_eq (b : Byte) (s : State) :
    rbChecksumOk (storeEnd b s).rb = decide s.checksumMatches :=
  Bool.eq_iff_iff.2 (rbChecksumOk_storeEnd.trans decide_eq_true_iff.symm)

/-- A tenth byte other than the start marker, where a test fails: back to Idle (42_codec_feed.md R128). -/
theorem feedByte_rejects {b : Byte} {s : State} (h9 : s.ofs = 9) (hfail : ¬(b = EOF ∧ s.checksumMatches))
    (hsof : b ≠ SOF) :
    feedByte b s = report .invalid (endCause (b == EOF) s.checksumMatches false) (toIdle (storeEnd b s)) := by
  rw [feedByte_of_ofs_nine h9]
  obtain ⟨hend, hok, -⟩ | ⟨hmarker, -⟩ | ⟨-, -, heq⟩ := feedEnd_cases b s
  · exact absurd ⟨hend, rbChecksumOk_storeEnd.1 hok⟩ hfail
  · exact absurd hmarker hsof
  · rw [heq, rbChecksumOk_storeEnd_eq]

/-- A start marker as the tenth byte: a new frame begins (42_codec_feed.md R130). -/
theorem feedByte_resynchronises {s : State} (h9 : s.ofs = 9) :
    feedByte SOF s = report .invalid (endCause false s.checksumMatches true) (startFrame (storeEnd SOF s)) := by
  rw [feedByte_of_ofs_nine h9]
  obtain ⟨hend, -⟩ | ⟨-, heq⟩ | ⟨-, hsof, -⟩ := feedEnd_cases SOF s
  · exact absurd hend (by decide)
  · rw [heq, rbChecksumOk_storeEnd_eq]
  · exact absurd rfl hsof

/-- The cause of R128: one bit for each failed test. -/
theorem endCause_of_no_marker (b : Byte) (chkOk : Prop) [Decidable chkOk] (hfail : ¬(b = EOF ∧ chkOk)) :
    endCause (b == EOF) chkOk false =
      if b ≠ EOF then (if chkOk then 0x02#5 else 0x03#5) else 0x01#5 := by
  by_cases hend : b = EOF <;> by_cases hchk : chkOk
  · exact absurd ⟨hend, hchk⟩ hfail
  all_goals simp [endCause, causeIf, causeNone, badEnd, badChk, hend, hchk]

/-- The cause of R130: a start marker is no end marker. -/
theorem endCause_of_marker (chkOk : Prop) [Decidable chkOk] :
    endCause false chkOk true = if chkOk then 0x12#5 else 0x13#5 := by
  by_cases hchk : chkOk <;> simp [endCause, causeIf, causeNone, badEnd, badChk, resync, hchk]

/-- Settles O12: the failed tests give the cause, and the block is Idle again with the byte in `RB[9]`. -/
theorem feedRejectsAnInvalidFrame : Obligations.FeedRejectsAnInvalidFrame := by
  intro s b h9 hfail hsof c
  rw [exec_feed, feedByte_rejects h9 hfail hsof, endCause_of_no_marker b _ hfail]
  rfl

/-- Settles O13: the marker is stored twice, as the tenth byte of the rejected frame and as the first of the new one. -/
theorem feedResynchronisesAtTheEnd : Obligations.FeedResynchronisesAtTheEnd := by
  intro s h9 c
  rw [exec_feed, feedByte_resynchronises h9, endCause_of_marker]
  rfl

/-! ## TAKE and CLRS (42_codec_feed.md R131, R133) -/

theorem clearReady_of_not_ready {s : State} (h : s.rdy = false) : clearReady s = s := by
  unfold clearReady
  rw [← h]

/-- Settles O20: with `RDY` clear there is nothing to clear. -/
theorem takeReturnsTheLatchedFrame : Obligations.TakeReturnsTheLatchedFrame := by
  intro s
  refine ⟨fun hrdy => execTake_eq_next.2 ?_, fun hrdy => execTake_eq_next.2 ?_⟩
  · rw [if_pos hrdy]
    rfl
  · rw [clearReady_of_not_ready hrdy, if_neg (by simp [hrdy])]
    rfl

/-- Settles O21: the meaning of CLRS is this one write. -/
theorem clrsClearsTheStickyFlags : Obligations.ClrsClearsTheStickyFlags := fun _ => rfl

end Sys2Proof.Machine
end

section
/-!
CERTIFICATE. The statements of 43_ingest.md on one received byte and on the line-idle event: RXB in `MODE = DRAIN` (R150,
R152) and IDLE (R153).
-/

namespace Sys2Proof.Machine

/-- The milestones as plain tests on the write cursor: HALF at `N div 2`, FULL at 0 (43_ingest.md R152). -/
theorem raiseMilestones_eq_decide (n wp : Nat) (p : Pending) :
    raiseMilestones n wp p =
      { half := p.half || decide (wp = n / 2), full := p.full || decide (wp = 0), idle := p.idle } := rfl

/-- The three sub-steps of RXB as one state: the store at an index, the count, and the milestones over the write cursor
the count leaves (43_ingest.md R150). -/
theorem notify_count_store (i : Nat) (b : Byte) (s : State) :
    notifyMilestones (countByte (storeByte i b s)) =
      { s with
        buf := memSet s.buf i b
        rem := countDown s.cfg.capacity s.rem
        wt := s.wt + 1
        pend := raiseMilestones s.cfg.capacity (writeCursor s.cfg.capacity (countDown s.cfg.capacity s.rem)) s.pend } :=
  rfl

/-- Settles O22: the write cursor of a legal `REM` is `N - REM`, so the store lands there, and the count and the
milestones follow it. -/
theorem rxbStoresCountsAndNotifies : Obligations.RxbStoresCountsAndNotifies := by
  intro s b hmode hcfg hrem hremN hbuf n rem'
  have hwp : s.wp = n - s.rem := wp_eq_sub hrem hremN
  have hrxb : exec (.rxb b) s = .next (notifyMilestones (countByte (storeByte s.wp b s))) :=
    receiveByte_eq_next.2 (.inr ⟨hmode, wp_lt hcfg, rfl⟩)
  refine ⟨memSet s.buf (n - s.rem) b, fun i => memGet_memSet (n - s.rem) i b hbuf, ?_⟩
  rw [hrxb, hwp, notify_count_store, raiseMilestones_eq_decide]
  rfl

/-- Settles O24: the meaning of IDLE is this one write. -/
theorem idleSetsItsFlag : Obligations.IdleSetsItsFlag := fun _ => rfl

end Sys2Proof.Machine
end

section
/-!
CERTIFICATE. The statements of 44_coordinator.md on single operations: SEND (R180), REQ (R181), POLL with its timeout
actions (R182, R184) and TICK (R183).
-/

namespace Sys2Proof.Machine

/-! ## The frame of a command and its answer -/

/-- The two checksum bytes ENC makes, as one number (30_encoding.md R75, R76). -/
theorem encodeFrame_checksum (cmd p1 p2 : Byte) :
    (encodeFrame cmd p1 p2).ckHigh.toNat * 256 + (encodeFrame cmd p1 p2).ckLow.toNat =
      65536 - (0xFF + 0x06 + cmd.toNat + p1.toNat + p2.toNat) := by
  have hzero : (0x00#8 : Byte).toNat = 0 := rfl
  have hsum := highByte_lowByte_toNat (csum VER LEN cmd 0x00#8 p1 p2)
  rw [csum_frame_toNat, hzero] at hsum
  exact hsum.trans (by omega)

/-- The frame goes out before the answer is returned (44_coordinator.md R180, R181). -/
theorem emitResult_transmit (r : OpResult) (f : Frame) (s : State) :
    emitResult r (transmit f s) = { s with trace := s.trace ++ ((frameBytes f).map .tx ++ [.result r]) } := by
  rw [← List.append_assoc]
  rfl

/-! ## SEND and REQ (44_coordinator.md R180, R181) -/

theorem sendCommand_answersSend (cmd p1 p2 : Byte) (s : State) :
    AnswersSend cmd p1 p2 s (sendCommand cmd p1 p2 s) := by
  refine ⟨fun hco => sendCommand_eq_next.2 (.inl ⟨hco, rfl⟩), fun hco => ?_⟩
  have hsent : sendCommand cmd p1 p2 s = .next (emitResult .sent (transmit (encodeFrame cmd p1 p2) s)) :=
    sendCommand_eq_next.2 (.inr ⟨hco, rfl⟩)
  rw [hsent, emitResult_transmit]
  exact ⟨_, _, encodeFrame_checksum cmd p1 p2, rfl⟩

theorem requestCommand_answersRequest (cmd p1 p2 : Byte) (timeout : Nat) (s : State) :
    AnswersRequest cmd p1 p2 timeout s (requestCommand cmd p1 p2 timeout s) := by
  refine ⟨fun hco => requestCommand_eq_next.2 (.inl ⟨hco, rfl⟩), fun hco => ?_⟩
  have hissued : requestCommand cmd p1 p2 timeout s =
      .next (emitResult .issued (transmit (encodeFrame cmd p1 p2) (createPending cmd timeout s))) :=
    requestCommand_eq_next.2 (.inr ⟨hco, rfl⟩)
  rw [hissued, emitResult_transmit]
  exact ⟨_, _, encodeFrame_checksum cmd p1 p2, rfl⟩

/-- Settles O35: the meaning of SEND is `sendCommand`. -/
theorem sendTransmitsOrIsBusy : Obligations.SendTransmitsOrIsBusy := sendCommand_answersSend

/-- Settles O36: the meaning of REQ is `requestCommand`. -/
theorem reqCreatesThePendingCommandOrIsBusy : Obligations.ReqCreatesThePendingCommandOrIsBusy :=
  requestCommand_answersRequest

/-! ## POLL and TICK (44_coordinator.md R182 to R184) -/

theorem co_ne_idle_iff {s : State} : s.co ≠ .idle ↔ s.co = .awaitingReply := by
  cases s.co <;> decide

/-- Settles O37: the four answers, in the order POLL looks for them. -/
theorem pollAnswersByTheLatchAndTheCount : Obligations.PollAnswersByTheLatchAndTheCount := by
  intro s
  refine execPoll_eq_next.2 ?_
  split_ifs with hco hmatch hcnt
  · exact .inl ⟨hco, rfl⟩
  · obtain ⟨hrdy, hcode⟩ := hmatch
    exact .inr (.inl ⟨co_ne_idle_iff.1 hco, hrdy, hcode, rfl⟩)
  · exact .inr (.inr (.inl ⟨co_ne_idle_iff.1 hco, hmatch, hcnt, rfl⟩))
  · exact .inr (.inr (.inr ⟨co_ne_idle_iff.1 hco, hmatch, hcnt, rfl⟩))

/-- A count of 0 stays 0, so counting down changes nothing there. -/
theorem countDownTick_of_cnt_zero {s : State} (h : s.cnt = 0) : { s with cnt := s.cnt - 1 } = s := by
  have hstays : s.cnt - 1 = s.cnt := by omega
  rw [hstays]

/-- Settles O38: with a request outstanding, the test on the count only spares a write that changes nothing. -/
theorem tickCountsDown : Obligations.TickCountsDown := by
  intro s
  refine execTick_eq_next.2 ?_
  by_cases hco : s.co = .awaitingReply
  · by_cases hcnt : s.cnt > 0
    · rw [if_pos hco, if_pos ⟨hco, hcnt⟩]
    · rw [if_pos hco, if_neg (fun h => hcnt h.2), countDownTick_of_cnt_zero (Nat.eq_zero_of_not_pos hcnt)]
  · rw [if_neg hco, if_neg (fun h => hco h.1)]

end Sys2Proof.Machine
end

section
/-!
CERTIFICATE. The statements of the decoder and of `step`: decoding inverts the encoding (30_encoding.md R73, R81,
R86), and a step rests, refuses, or runs the decoded operation (10_state.md R40, R43; 70_reset_and_hazards.md R256).
-/

namespace Sys2Proof

/-! ## Operands -/

@[simp] theorem operandFrame_frameBytes (f : Frame) (bs : List Byte) (k : Frame → List Byte → Decoded) :
    operandFrame (Machine.frameBytes f ++ bs) k = k f bs := rfl

/-- The digits of a timeout decode to it, as long as the fuel reaches its last digit. -/
theorem decodeTicks_encodeTicksFuel {fuel n : Nat} (h : n ≤ fuel) (rest : List Byte) :
    decodeTicks (encodeTicksFuel fuel n ++ rest) = .ok (n, rest) := by
  induction fuel generalizing n with
  | zero =>
    obtain rfl : n = 0 := by omega
    rfl
  | succ fuel ih =>
    unfold encodeTicksFuel
    split
    · next hlast =>
      have hdigit : (BitVec.ofNat 8 n).toNat = n := Nat.mod_eq_of_lt (by omega)
      rw [List.singleton_append, decodeTicks, hdigit, if_pos hlast]
    · next hmore =>
      have hdigit : (BitVec.ofNat 8 (128 + n % 128)).toNat = 128 + n % 128 := Nat.mod_eq_of_lt (by omega)
      have hhigh : decodeTicks (encodeTicksFuel fuel (n / 128) ++ rest) = .ok (n / 128, rest) := ih (by omega)
      have hvalue : 128 + n % 128 - 128 + 128 * (n / 128) = n := by omega
      rw [List.cons_append, decodeTicks, hdigit, if_neg (by omega), hhigh]
      exact congrArg (fun m => Except.ok (m, rest)) hvalue

@[simp] theorem operandTicks_encodeTicks (n : Nat) (bs : List Byte) (k : Nat → List Byte → Decoded) :
    operandTicks (encodeTicks n ++ bs) k = k n bs := by
  unfold operandTicks encodeTicks
  rw [decodeTicks_encodeTicksFuel (Nat.le_refl n)]

/-! ## Frame words -/

/-- What a FRAME80 word with use byte `use` decodes to. -/
theorem decode_encodePattern (cmd fb p1 p2 ckH ckL use : Byte) (bs : List Byte) :
    decode (encodePattern cmd fb p1 p2 ckH ckL ++ use :: bs) =
      if use = 0x00#8 then decodeRow cmd fb p1 p2 ckH ckL bs
      else if use = 0x01#8 then .ok (.frame .inward cmd fb p1 p2 ckH ckL, bs)
      else if use = 0x02#8 then .ok (.frame .outward cmd fb p1 p2 ckH ckL, bs)
      else .error (.reservedUse use) := rfl

/-- A code with no row of its own reads as a frame that arrives. -/
theorem decodeRow_of_not_named {cmd : Byte} (h : isNamedCommand cmd = false) (fb p1 p2 ckH ckL : Byte)
    (bs : List Byte) : decodeRow cmd fb p1 p2 ckH ckL bs = .ok (.frame .inward cmd fb p1 p2 ckH ckL, bs) := by
  simp only [isNamedCommand, Bool.or_eq_false_iff, beq_eq_false_iff_ne] at h
  obtain ⟨⟨⟨⟨⟨⟨hinit, hvolume⟩, hpause⟩, hresume⟩, hplay⟩, hloop⟩, hquery⟩ := h
  simp only [decodeRow, hinit, hvolume, hpause, hresume, hplay, hloop, hquery, if_false]

/-- An arriving frame is written with the use byte that keeps it from reading as a command. -/
theorem decode_encode_arrival (cmd fb p1 p2 ckH ckL : Byte) (rest : List Byte) :
    decode (encode (.frame .inward cmd fb p1 p2 ckH ckL) ++ rest) =
      .ok (.frame .inward cmd fb p1 p2 ckH ckL, rest) := by
  rw [encode, List.append_assoc, List.singleton_append, decode_encodePattern]
  cases hnamed : isNamedCommand cmd
  · exact decodeRow_of_not_named hnamed fb p1 p2 ckH ckL rest
  · rfl

/-- Settles O56: each form of word is read back operand by operand; the timeout is the one that needs an induction. -/
theorem decodeOfEncodeIsTheInstruction : Obligations.DecodeOfEncodeIsTheInstruction := by
  intro i rest
  cases i with
  | rst | take | clrs | idle | drain | svc | poll | tick => rfl
  | enc | feed | rxb | send => rfl
  | tx f => exact operandFrame_frameBytes f rest fun g bs => .ok (.tx g, bs)
  | req cmd p1 p2 timeout => exact operandTicks_encodeTicks timeout rest _
  | frame dir cmd fb p1 p2 ckH ckL =>
    cases dir with
    | inward => exact decode_encode_arrival cmd fb p1 p2 ckH ckL rest
    | outward => rfl
  | initSource | setVolume | pause | resume | playFolder | loopFolder => rfl
  | queryFolderCount fb p1 p2 ckH ckL timeout => exact operandTicks_encodeTicks timeout rest _

/-- The numbers above the last operation, but for the start marker, name none (30_encoding.md R86). -/
theorem decode_unused {b : Byte} (hunused : 0xE ≤ b.toNat) (hsof : b ≠ SOF) (rest : List Byte) :
    decode (b :: rest) = .error (.reservedOp b) := by
  rw [decode, if_neg hsof, decodeOp]
  split
  case h_15 => rfl
  all_goals omega

/-- Settles O59: the decoder evaluates on the four words. -/
theorem sampleWordsDecode : Obligations.SampleWordsDecode := by
  refine ⟨?_, ?_, ?_, ?_⟩ <;> decide

end Sys2Proof

namespace Sys2Proof.Machine

/-! ## What the next step is -/

theorem step_of_decode_ok {s : State} {i : Instr} {rest : List Byte} (hdec : decode s.schedule = .ok (i, rest))
    (halone : stepsAlone s.cfg.mode i = true) : step s = exec i { s with schedule := rest } := by
  unfold step
  rw [fetch_eq_run.2 ⟨hdec, halone⟩]

theorem fetch_eq_classify {s : State} (h : s.schedule ≠ []) : fetch s = classify s.cfg.mode (decode s.schedule) := by
  unfold fetch
  split
  · next hnil => exact absurd hnil h
  · next hcons => rw [hcons]

theorem schedule_ne_nil_of_decode_ok {bs : List Byte} {d : Instr × List Byte} (h : decode bs = .ok d) : bs ≠ [] := by
  rintro rfl
  cases h

theorem step_of_barred {s : State} {i : Instr} {rest : List Byte} (hdec : decode s.schedule = .ok (i, rest))
    (halone : stepsAlone s.cfg.mode i = false) : step s = .refused (.notEnabled i) := by
  unfold step
  rw [fetch_eq_classify (schedule_ne_nil_of_decode_ok hdec), hdec, classify, halone]
  rfl

theorem step_of_decode_error {s : State} {e : DecodeError} (hne : s.schedule ≠ [])
    (hdec : decode s.schedule = .error e) : step s = .refused (.undecodable e) := by
  unfold step
  rw [fetch_eq_classify hne, hdec]
  rfl

/-- Settles O57: the condition on FEED is that the operation may be a step. -/
theorem stepRunsTheDecodedOperation : Obligations.StepRunsTheDecodedOperation :=
  fun _ _ _ hdec hfeed => step_of_decode_ok hdec (stepsAlone_eq_true.2 hfeed)

/-- Settles O58: the unused numbers are bytes the decoder refuses. -/
theorem stepRestsOrRefusesWithoutAnOperation : Obligations.StepRestsOrRefusesWithoutAnOperation := by
  intro s
  refine ⟨fun hnil => step_eq_next.2 (.inl ⟨hnil, rfl⟩), fun e hne hdec => step_of_decode_error hne hdec,
    fun b rest hcons hunused hsof => ?_⟩
  have hdec : decode s.schedule = .error (.reservedOp b) := hcons ▸ decode_unused hunused hsof rest
  exact step_of_decode_error (hcons ▸ List.cons_ne_nil b rest) hdec

end Sys2Proof.Machine
end

section
/-!
CERTIFICATE. What an operation can do, by the engine that performs it: one step of an agent that may also fall inside
a drain, FEED, an arriving frame, the drain engine, or RST. Then the statements that hold for every operation: it
completes (60_exceptions.md R216), and which elements it leaves alone (10_state.md R26, R30, R31, R37; 20_memory.md
R63).
-/

namespace Sys2Proof.Machine

/-! ## The operations by their engines -/

/-- The operation of an agent that an instruction comes down to, where there is one: a frame sent is TX of its bytes,
and a command is SEND or REQ under its code. -/
def agentStep : Instr → Option Intruder
  | .rst => none
  | .enc cmd p1 p2 => some (.enc cmd p1 p2)
  | .tx f => some (.tx f)
  | .feed _ => none
  | .take => some .take
  | .clrs => some .clrs
  | .rxb b => some (.rxb b)
  | .idle => some .idle
  | .drain => none
  | .svc => none
  | .send cmd p1 p2 => some (.send cmd p1 p2)
  | .req cmd p1 p2 timeout => some (.req cmd p1 p2 timeout)
  | .poll => some .poll
  | .tick => some .tick
  | .frame .inward _ _ _ _ _ _ => none
  | .frame .outward cmd fb p1 p2 ckH ckL => some (.tx (framePattern cmd fb p1 p2 ckH ckL))
  | .initSource _ p1 p2 _ _ => some (.send cmdInitSource p1 p2)
  | .setVolume _ p1 p2 _ _ => some (.send cmdSetVolume p1 p2)
  | .pause _ p1 p2 _ _ => some (.send cmdPause p1 p2)
  | .resume _ p1 p2 _ _ => some (.send cmdResume p1 p2)
  | .playFolder _ p1 p2 _ _ => some (.send cmdPlayFolder p1 p2)
  | .loopFolder _ p1 p2 _ _ => some (.send cmdLoopFolder p1 p2)
  | .queryFolderCount _ p1 p2 _ _ timeout => some (.req cmdQueryFolderCount p1 p2 timeout)

/-- All that an instruction can be, with its meaning in state `s`. -/
inductive Performs (s : State) (o : Out) : Instr → Prop
  | rst : o = execRst s → Performs s o .rst
  | feed (b : Byte) : o = .next (feedByte b s) → Performs s o (.feed b)
  | drain : o = drainBuffer s → Performs s o .drain
  | svc : o = execSvc s → Performs s o .svc
  | arrival (cmd fb p1 p2 ckH ckL : Byte) :
      o = forEach receiveByte (frameBytes (framePattern cmd fb p1 p2 ckH ckL)) s →
      Performs s o (.frame .inward cmd fb p1 p2 ckH ckL)
  | agent (i : Instr) (e : Intruder) : agentStep i = some e → o = runIntruder e s → Performs s o i

theorem exec_performs (i : Instr) (s : State) : Performs s (exec i s) i := by
  cases i with
  | rst => exact .rst rfl
  | feed b => exact .feed b rfl
  | drain => exact .drain rfl
  | svc => exact .svc rfl
  | frame dir cmd fb p1 p2 ckH ckL =>
    cases dir with
    | inward => exact .arrival cmd fb p1 p2 ckH ckL rfl
    | outward => exact .agent _ _ rfl rfl
  | enc | tx | take | clrs | rxb | idle | send | req | poll | tick => exact .agent _ _ rfl rfl
  | initSource | setVolume | pause | resume | playFolder | loopFolder | queryFolderCount => exact .agent _ _ rfl rfl

theorem performs_of_exec {i : Instr} {s t : State} (h : exec i s = .next t) : Performs s (.next t) i :=
  h ▸ exec_performs i s

theorem receives_of_agentStep_rxb {i : Instr} {b : Byte} (h : agentStep i = some (.rxb b)) : receives i = true := by
  cases i with
  | rxb => rfl
  | frame dir => cases dir <;> cases h
  | _ => cases h

theorem eq_clrs_of_agentStep {i : Instr} (h : agentStep i = some .clrs) : i = .clrs := by
  cases i with
  | clrs => rfl
  | frame dir => cases dir <;> cases h
  | _ => cases h

/-! ## No operation stops the block (60_exceptions.md R216) -/

theorem receiveAll_completes {s : State} (h : s.cfg.wf) (bs : List Byte) :
    ∃ t, forEach receiveByte bs s = .next t ∧ t.cfg = s.cfg :=
  forEach_completes (P := fun u => u.cfg = s.cfg)
    (fun b _ u hu => by
      obtain ⟨v, hv⟩ := receiveByte_completes (s := u) (hu.symm ▸ h) b
      exact ⟨v, hv, (receiveByte_frame hv).1.trans hu⟩)
    rfl

theorem drainByte_completes {i : Nat} {s : State} (h : s.cfg.wf) (hi : i < s.cfg.capacity) :
    ∃ t, drainByte i s = .next t := by
  obtain ⟨u, hu, hcfg⟩ := interleave_completes h
  exact ⟨_, drainByte_eq_next.2 ⟨u, hu, hcfg.symm ▸ hi, rfl⟩⟩

theorem drainTo_completes {w : Nat} {s : State} (h : s.cfg.wf) (hw : w ≤ s.cfg.capacity) :
    ∃ t, drainTo w s = .next t := by
  by_cases hnew : w = s.rc
  · exact ⟨s, drainTo_eq_next.2 (.inl ⟨hnew, rfl⟩)⟩
  · obtain ⟨u, hu, hcfg⟩ := forEach_completes (f := drainByte) (as := drainIndices s.cfg.capacity s.rc w)
      (P := fun u => u.cfg = s.cfg)
      (fun i hi u hu => by
        obtain ⟨v, hv⟩ := drainByte_completes (s := u) (hu.symm ▸ h) (hu.symm ▸ drainIndices_lt hw hi)
        exact ⟨v, hv, (drainByte_keeps_cfg hv).trans hu⟩)
      (s := s) rfl
    obtain ⟨v, hv, -⟩ := interleave_completes (s := u) (hcfg.symm ▸ h)
    exact ⟨_, drainTo_eq_next.2 (.inr ⟨hnew, u, v, hu, hv, rfl⟩)⟩

theorem drainBuffer_completes {s : State} (h : s.cfg.wf) : ∃ t, drainBuffer s = .next t := by
  cases hmode : s.cfg.mode
  · exact ⟨s, drainBuffer_eq_next.2 (.inl ⟨hmode, rfl⟩)⟩
  · obtain ⟨t, ht⟩ := drainTo_completes h (Nat.le_of_lt (wp_lt h))
    exact ⟨t, drainBuffer_eq_next.2 (.inr ⟨hmode, ht⟩)⟩

theorem service_completes {s : State} (h : s.cfg.wf) : ∃ t, service s = .next t := by
  obtain ⟨u, hu, hucfg⟩ := interleave_completes (s := clearPending s) h
  obtain ⟨v, hv⟩ := drainBuffer_completes (s := u) (hucfg.symm ▸ h)
  obtain ⟨w, hw, -⟩ := interleave_completes (s := v) ((drainBuffer_keeps_cfg hv).trans hucfg ▸ h)
  exact ⟨_, service_eq_next.2 ⟨u, v, w, hu, hv, hw, rfl⟩⟩

theorem execSvc_completes {s : State} (h : s.cfg.wf) : ∃ t, execSvc s = .next t := by
  cases hpend : pendAny s.pend
  · exact ⟨s, execSvc_eq_next.2 (.inr ⟨hpend, rfl⟩)⟩
  · obtain ⟨t, ht⟩ := service_completes h
    exact ⟨t, execSvc_eq_next.2 (.inl ⟨hpend, ht⟩)⟩

/-- Settles O47: each engine completes from legal parameters; only the reads and stores of BUF need them. -/
theorem noOperationStopsTheBlock : Obligations.NoOperationStopsTheBlock := by
  intro i s hcfg
  cases exec_performs i s with
  | rst ho => exact ⟨_, ho⟩
  | feed b ho => exact ⟨_, ho⟩
  | drain ho => rw [ho]; exact drainBuffer_completes hcfg
  | svc ho => rw [ho]; exact execSvc_completes hcfg
  | arrival cmd fb p1 p2 ckH ckL ho =>
    obtain ⟨t, ht, -⟩ := receiveAll_completes hcfg (frameBytes (framePattern cmd fb p1 p2 ckH ckL))
    exact ⟨t, ho.trans ht⟩
  | agent _ e _ ho => rw [ho]; exact runIntruder_completes hcfg e

/-! ## What a step of an agent leaves alone -/

/-- A step between `s` and `t` that feeds no byte and stores none: the reconstructor's registers stay, but for a reset
of OFS by a timeout, the buffer side stays, and no FEED result is emitted. -/
structure Quiet (s t : State) : Prop where
  cfg   : t.cfg = s.cfg
  buf   : t.buf = s.buf
  rem   : t.rem = s.rem
  rc    : t.rc = s.rc
  wt    : t.wt = s.wt
  rt    : t.rt = s.rt
  rb    : t.rb = s.rb
  res   : t.res = s.res
  cause : t.cause = s.cause
  ofs   : t.ofs = s.ofs ∨ t.ofs = 0
  trace : ∃ new, t.trace = s.trace ++ new ∧ ∀ r : FeedResult, Emission.result (.fed r) ∉ new

/-- The conclusion of R40 for a step between `s` and `t`: RB, RES and CAUSE stay, and no FEED result is emitted. -/
def FeedsNothing (s t : State) : Prop :=
  t.rb = s.rb ∧ t.res = s.res ∧ t.cause = s.cause ∧
    ∃ new, t.trace = s.trace ++ new ∧ ∀ r : FeedResult, Emission.result (.fed r) ∉ new

theorem Quiet.feedsNothing {s t : State} (h : Quiet s t) : FeedsNothing s t := ⟨h.rb, h.res, h.cause, h.trace⟩

theorem Quiet.refl (s : State) : Quiet s s :=
  ⟨rfl, rfl, rfl, rfl, rfl, rfl, rfl, rfl, rfl, .inl rfl, [], (List.append_nil _).symm, by simp⟩

theorem quiet_emitResult {r : OpResult} {s t : State} (h : Quiet s t) (hr : ∀ q, r ≠ .fed q) :
    Quiet s (emitResult r t) := by
  obtain ⟨new, htrace, hfed⟩ := h.trace
  refine { h with trace := ⟨new ++ [.result r], by simp [htrace], fun q hq => ?_⟩ }
  obtain hq | hq := List.mem_append.1 hq
  · exact hfed q hq
  · exact hr q (by simpa [eq_comm] using hq)

theorem quiet_transmit {f : Frame} {s t : State} (h : Quiet s t) : Quiet s (transmit f t) := by
  obtain ⟨new, htrace, hfed⟩ := h.trace
  refine { h with trace := ⟨new ++ (frameBytes f).map .tx, by simp [htrace], fun q hq => ?_⟩ }
  obtain hq | hq := List.mem_append.1 hq
  · exact hfed q hq
  · simp at hq

theorem sendCommand_quiet {cmd p1 p2 : Byte} {s t : State} (h : sendCommand cmd p1 p2 s = .next t) : Quiet s t := by
  obtain ⟨-, rfl⟩ | ⟨-, rfl⟩ := sendCommand_eq_next.1 h
  · exact quiet_emitResult (.refl s) nofun
  · exact quiet_emitResult (quiet_transmit (.refl s)) nofun

theorem requestCommand_quiet {cmd p1 p2 : Byte} {timeout : Nat} {s t : State}
    (h : requestCommand cmd p1 p2 timeout s = .next t) : Quiet s t := by
  obtain ⟨-, rfl⟩ | ⟨-, rfl⟩ := requestCommand_eq_next.1 h
  · exact quiet_emitResult (.refl s) nofun
  · have hcreated : Quiet s (createPending cmd timeout s) := { Quiet.refl s with }
    exact quiet_emitResult (quiet_transmit hcreated) nofun

theorem execPoll_quiet {s t : State} (h : execPoll s = .next t) : Quiet s t := by
  obtain ⟨-, rfl⟩ | ⟨-, -, -, rfl⟩ | ⟨-, -, -, rfl⟩ | ⟨-, -, -, rfl⟩ := execPoll_eq_next.1 h
  · exact quiet_emitResult (.refl s) nofun
  · have hconsumed : Quiet s (consumePending (clearReady s)) := { Quiet.refl s with }
    exact quiet_emitResult hconsumed nofun
  · have htimedOut : Quiet s (timeoutActions (clearReady s)) := { Quiet.refl s with ofs := .inr rfl }
    exact quiet_emitResult htimedOut nofun
  · have hcleared : Quiet s (clearReady s) := { Quiet.refl s with }
    exact quiet_emitResult hcleared nofun

/-- Of the steps of other agents only the arrival of a byte feeds or stores (20_memory.md R63, 10_state.md R40). -/
theorem runIntruder_quiet {e : Intruder} {s t : State} (h : runIntruder e s = .next t) (he : ∀ b, e ≠ .rxb b) :
    Quiet s t := by
  cases e with
  | rxb b => exact absurd rfl (he b)
  | idle => cases h; exact { Quiet.refl s with }
  | enc cmd p1 p2 => cases h; exact quiet_emitResult (.refl s) nofun
  | tx f => cases h; exact quiet_transmit (.refl s)
  | take =>
    rw [execTake_eq_next.1 h]
    have hcleared : Quiet s (clearReady s) := { Quiet.refl s with }
    exact quiet_emitResult hcleared nofun
  | clrs => cases h; exact { Quiet.refl s with }
  | send cmd p1 p2 => exact sendCommand_quiet h
  | req cmd p1 p2 timeout => exact requestCommand_quiet h
  | poll => exact execPoll_quiet h
  | tick =>
    rw [execTick_eq_next.1 h]
    split
    · exact { Quiet.refl s with }
    · exact .refl s

/-- In `MODE = DRAIN` an arriving byte goes to the buffer, and the reconstructor and the outputs stay (43_ingest.md
R150). -/
theorem receiveByte_buffers {b : Byte} {s t : State} (hmode : s.cfg.mode = .drain) (h : receiveByte b s = .next t) :
    t.rb = s.rb ∧ t.res = s.res ∧ t.cause = s.cause ∧ t.trace = s.trace := by
  obtain ⟨hpush, -⟩ | ⟨-, -, rfl⟩ := receiveByte_eq_next.1 h
  · rw [hmode] at hpush; cases hpush
  · simp

theorem receiveAll_feedsNothing {bs : List Byte} {s t : State} (hmode : s.cfg.mode = .drain)
    (h : forEach receiveByte bs s = .next t) : FeedsNothing s t := by
  suffices hstays : t.cfg = s.cfg ∧ t.rb = s.rb ∧ t.res = s.res ∧ t.cause = s.cause ∧ t.trace = s.trace by
    obtain ⟨-, hrb, hres, hcause, htrace⟩ := hstays
    exact ⟨hrb, hres, hcause, [], by rw [htrace, List.append_nil], by simp⟩
  refine forEach_keeps (f := receiveByte)
    (P := fun u => u.cfg = s.cfg ∧ u.rb = s.rb ∧ u.res = s.res ∧ u.cause = s.cause ∧ u.trace = s.trace)
    (fun b _ u v hu hv => ?_) ⟨rfl, rfl, rfl, rfl, rfl⟩ h
  obtain ⟨hcfg, hrb, hres, hcause, htrace⟩ := hu
  obtain ⟨hrb', hres', hcause', htrace'⟩ := receiveByte_buffers (hcfg.symm ▸ hmode) hv
  exact ⟨(receiveByte_frame hv).1.trans hcfg, hrb'.trans hrb, hres'.trans hres, hcause'.trans hcause,
    htrace'.trans htrace⟩

/-- Settles O50: every step of an agent, and the bytes of a frame, leave the read side (20_memory.md R63). -/
theorem onlyTheDrainEngineWritesTheReadCursor : Obligations.OnlyTheDrainEngineWritesTheReadCursor := by
  intro i s t h hdrains hrst
  cases performs_of_exec h with
  | rst => exact absurd rfl hrst
  | feed b ho => cases ho; simp
  | drain => cases hdrains
  | svc => cases hdrains
  | arrival cmd fb p1 p2 ckH ckL ho =>
    refine forEach_keeps (f := receiveByte) (P := fun u => u.rc = s.rc ∧ u.rt = s.rt) (fun b _ u v hu hv => ?_)
      ⟨rfl, rfl⟩ ho.symm
    obtain ⟨-, hrc, hrt, -⟩ := receiveByte_frame hv
    exact ⟨hrc.trans hu.1, hrt.trans hu.2⟩
  | agent _ e _ ho =>
    obtain ⟨-, hrc, hrt, -⟩ := runIntruder_frame ho.symm
    exact ⟨hrc, hrt⟩

/-- An operation that feeds no byte and receives none is quiet. -/
theorem exec_quiet {i : Instr} {s t : State} (h : exec i s = .next t) (hreceives : receives i = false)
    (hdrains : drains i = false) (hrst : i ≠ .rst) (hfeed : ∀ b, i ≠ .feed b) : Quiet s t := by
  cases performs_of_exec h with
  | rst => exact absurd rfl hrst
  | feed b => exact absurd rfl (hfeed b)
  | drain => cases hdrains
  | svc => cases hdrains
  | arrival => cases hreceives
  | agent _ e he ho =>
    refine runIntruder_quiet ho.symm fun b hb => ?_
    rw [receives_of_agentStep_rxb (hb ▸ he)] at hreceives
    cases hreceives

/-- Settles O51: such an operation is quiet. -/
theorem onlyFeedWritesTheResult : Obligations.OnlyFeedWritesTheResult := by
  intro i s t h hreceives hdrains hrst hfeed
  have hquiet : Quiet s t := exec_quiet h hreceives hdrains hrst hfeed
  exact ⟨hquiet.res, hquiet.cause, hquiet.rb⟩

/-! ## RCN never steps on its own (10_state.md R40) -/

/-- In `MODE = DRAIN` neither an agent's step nor an arrival feeds the reconstructor or emits a FEED result. -/
theorem exec_feedsNothing_of_drain {i : Instr} {s t : State} (hmode : s.cfg.mode = .drain)
    (h : exec i s = .next t) (hdrains : drains i = false) (hrst : i ≠ .rst) (hfeed : ∀ b, i ≠ .feed b) :
    FeedsNothing s t := by
  cases hreceives : receives i
  · exact (exec_quiet h hreceives hdrains hrst hfeed).feedsNothing
  · cases i with
    | rxb b => exact receiveAll_feedsNothing (bs := [b]) hmode (andThen_eq_next.2 ⟨t, h, rfl⟩)
    | frame dir => cases dir with
      | inward => exact receiveAll_feedsNothing hmode h
      | outward => cases hreceives
    | _ => cases hreceives

/-- Settles O60: a scheduled FEED is barred or is the RXB of its byte; every other step is quiet or only buffers
bytes. -/
theorem rcnNeverStepsOnItsOwn : Obligations.RcnNeverStepsOnItsOwn := by
  intro s i rest hdec
  refine ⟨?_, fun hdrains hrst hpush t ht => ?_⟩
  · rintro b rfl
    refine ⟨fun hmode => step_of_barred hdec (by rw [hmode]; rfl), fun hmode => ?_⟩
    have hrxb : exec (.rxb b) { s with schedule := rest } = .next (feedByte b { s with schedule := rest }) :=
      receiveByte_eq_next.2 (.inl ⟨hmode, rfl⟩)
    rw [step_of_decode_ok hdec (stepsAlone_eq_true.2 fun _ _ => hmode), hrxb]
    rfl
  · obtain ⟨hnil, -⟩ | ⟨j, rest', hdec', halone, hexec⟩ := step_eq_next.1 ht
    · exact absurd hnil (schedule_ne_nil_of_decode_ok hdec)
    · obtain ⟨rfl, rfl⟩ : i = j ∧ rest = rest' := by simpa using hdec.symm.trans hdec'
      cases hmode : s.cfg.mode
      · obtain ⟨hreceives, hfeed⟩ := hpush hmode
        exact (exec_quiet hexec hreceives hdrains hrst hfeed).feedsNothing
      · have hfeed : ∀ b, i ≠ .feed b := by
          rintro b rfl
          rw [hmode] at halone
          cases halone
        exact exec_feedsNothing_of_drain (s := { s with schedule := rest }) hmode hexec hdrains hrst hfeed

end Sys2Proof.Machine
end

section
/-!
CERTIFICATE. What holds along a drain whatever falls inside it, packaged once as an induction over its sub-steps; then
the statements that need it: who writes BUF and the Coordinator's registers (20_memory.md R63, 10_state.md R37), that
flags of STATUS are sticky (R31), and that every step keeps the invariant (R41, R36).
-/

namespace Sys2Proof.Machine

/-! ## One induction for the drain engine -/

/-- Every step still to come inside a drain is one of the kind `A`. -/
def State.IntrudersAre (A : Intruder → Prop) (s : State) : Prop := ∀ slot ∈ s.between, ∀ e ∈ slot, A e

theorem intrudersAre_of_no_slots {A : Intruder → Prop} {s : State} (h : s.between = []) : s.IntrudersAre A := by
  unfold State.IntrudersAre
  simp [h]

theorem intrudersAre_any (s : State) : s.IntrudersAre fun _ => True := fun _ _ _ _ => trivial

/-- Every sub-step of a DRAIN or SVC into which only steps of the kind `A` fall keeps `P`. -/
structure DrainKeeps (A : Intruder → Prop) (P : State → Prop) : Prop where
  agent  : ∀ {e : Intruder} {s t : State}, A e → P s → runIntruder e s = .next t → P t
  slots  : ∀ {s : State} (slots : List (List Intruder)), P s → P (setBetween slots s)
  read   : ∀ {s : State} (b : Byte), P s → P (feedByte b (countRead s))
  cursor : ∀ {s : State} (w : Nat), P s → P (setReadCursor w s)

section
variable {A : Intruder → Prop} {P : State → Prop}

/-- A point between two sub-steps: its slot is used up, the later ones stay. -/
theorem DrainKeeps.interleave {s t : State} (h : DrainKeeps A P) (hA : s.IntrudersAre A) (hP : P s)
    (ht : interleave s = .next t) : P t ∧ t.IntrudersAre A := by
  obtain ⟨-, rfl⟩ | ⟨slot, rest, hb, ht⟩ := interleave_eq_next.1 ht
  · exact ⟨hP, hA⟩
  · unfold State.IntrudersAre at hA
    rw [hb] at hA
    obtain ⟨hPt, hbetween⟩ := forEach_keeps (f := runIntruder) (P := fun u => P u ∧ u.between = rest)
      (fun e he u v hu hv => ⟨h.agent (hA slot List.mem_cons_self e he) hu.1 hv,
        (runIntruder_frame hv).2.2.2.2.trans hu.2⟩)
      (s := setBetween rest s) ⟨h.slots rest hP, rfl⟩ ht
    refine ⟨hPt, ?_⟩
    unfold State.IntrudersAre
    rw [hbetween]
    exact fun slot' hslot => hA slot' (List.mem_cons_of_mem _ hslot)

theorem DrainKeeps.drainByte {i : Nat} {s t : State} (h : DrainKeeps A P) (hA : s.IntrudersAre A) (hP : P s)
    (ht : drainByte i s = .next t) : P t ∧ t.IntrudersAre A := by
  obtain ⟨u, hu, -, rfl⟩ := drainByte_eq_next.1 ht
  obtain ⟨hPu, hAu⟩ := h.interleave hA hP hu
  refine ⟨h.read _ hPu, ?_⟩
  unfold State.IntrudersAre at hAu ⊢
  simpa using hAu

theorem DrainKeeps.drainBuffer {s t : State} (h : DrainKeeps A P) (hA : s.IntrudersAre A) (hP : P s)
    (ht : drainBuffer s = .next t) : P t ∧ t.IntrudersAre A := by
  obtain ⟨-, rfl⟩ | ⟨-, hto⟩ := drainBuffer_eq_next.1 ht
  · exact ⟨hP, hA⟩
  · obtain ⟨-, rfl⟩ | ⟨-, u, v, hu, hv, rfl⟩ := drainTo_eq_next.1 hto
    · exact ⟨hP, hA⟩
    · obtain ⟨hPu, hAu⟩ := forEach_keeps (P := fun x => P x ∧ x.IntrudersAre A)
        (fun i _ x y hx hy => h.drainByte hx.2 hx.1 hy) ⟨hP, hA⟩ hu
      obtain ⟨hPv, hAv⟩ := h.interleave hAu hPu hv
      exact ⟨h.cursor _ hPv, hAv⟩

theorem DrainKeeps.execSvc {s t : State} (h : DrainKeeps A P) (hclear : P s → P (clearPending s))
    (hidle : ∀ {u : State}, P u → P (lineIdleReset u)) (hA : s.IntrudersAre A) (hP : P s)
    (ht : execSvc s = .next t) : P t := by
  obtain ⟨-, hservice⟩ | ⟨-, rfl⟩ := execSvc_eq_next.1 ht
  · obtain ⟨u, v, w, hu, hv, hw, rfl⟩ := service_eq_next.1 hservice
    obtain ⟨hPu, hAu⟩ := h.interleave (s := clearPending s) hA (hclear hP) hu
    obtain ⟨hPv, hAv⟩ := h.drainBuffer hAu hPu hv
    obtain ⟨hPw, -⟩ := h.interleave hAv hPv hw
    split
    · exact hidle hPw
    · exact hPw
  · exact hP

end

/-! ## Who writes the buffer (20_memory.md R63) -/

/-- Where no step falls inside it, a drain leaves the write side of the buffer. -/
theorem drainKeeps_writeSide (s : State) :
    DrainKeeps (fun _ => False) fun u => u.buf = s.buf ∧ u.rem = s.rem ∧ u.wt = s.wt where
  agent hA := hA.elim
  slots _ h := by simpa using h
  read _ h := by simpa using h
  cursor _ h := by simpa using h

/-- Settles O49: FEED and the steps of agents other than an arrival leave BUF, REM and WT. -/
theorem onlyTheReceiveEngineWritesTheBuffer : Obligations.OnlyTheReceiveEngineWritesTheBuffer := by
  intro i s t h hreceives hbetween
  have hno : s.IntrudersAre fun _ => False := intrudersAre_of_no_slots hbetween
  have stays (hside : t.buf = s.buf ∧ t.rem = s.rem ∧ t.wt = s.wt) :
      t.buf = s.buf ∧ (i ≠ .rst → t.rem = s.rem ∧ t.wt = s.wt) := ⟨hside.1, fun _ => hside.2⟩
  cases performs_of_exec h with
  | rst ho => cases ho; exact ⟨rfl, fun hrst => absurd rfl hrst⟩
  | feed b ho => cases ho; exact stays (by simp)
  | drain ho => exact stays ((drainKeeps_writeSide s).drainBuffer hno ⟨rfl, rfl, rfl⟩ ho.symm).1
  | svc ho =>
    exact stays ((drainKeeps_writeSide s).execSvc (fun _ => by simp) (fun hu => by simpa using hu) hno
      ⟨rfl, rfl, rfl⟩ ho.symm)
  | arrival => cases hreceives
  | agent _ e he ho =>
    have hquiet : Quiet s t := by
      refine runIntruder_quiet ho.symm fun b hb => ?_
      rw [receives_of_agentStep_rxb (hb ▸ he)] at hreceives
      cases hreceives
    exact stays ⟨hquiet.buf, hquiet.rem, hquiet.wt⟩

/-! ## Who writes the Coordinator's registers (10_state.md R37) -/

/-- The Coordinator's registers stand in `t` as in `s`. -/
def SameRequest (s t : State) : Prop := t.co = s.co ∧ t.expect = s.expect ∧ t.cnt = s.cnt

theorem drainKeeps_request (s : State) : DrainKeeps (fun _ => False) (SameRequest s) where
  agent hA := hA.elim
  slots _ h := h
  read b h := by simpa [SameRequest] using h
  cursor _ h := h

theorem receiveByte_sameRequest {b : Byte} {s t : State} (h : receiveByte b s = .next t) : SameRequest s t := by
  obtain ⟨-, -, -, hco, hexpect, hcnt, -⟩ := receiveByte_frame h
  exact ⟨hco, hexpect, hcnt⟩

/-- Settles O53: arrivals and the sub-steps of a drain are on the block's side. -/
theorem blockLeavesTheCoordinatorAlone : Obligations.BlockLeavesTheCoordinatorAlone := by
  intro i s t h hbetween hi
  have hno : s.IntrudersAre fun _ => False := intrudersAre_of_no_slots hbetween
  have hdrain (hd : drainBuffer s = .next t) : SameRequest s t :=
    ((drainKeeps_request s).drainBuffer hno ⟨rfl, rfl, rfl⟩ hd).1
  have hsvc (hv : execSvc s = .next t) : SameRequest s t :=
    (drainKeeps_request s).execSvc (fun hs => hs) (fun hu => by simpa [SameRequest] using hu) hno ⟨rfl, rfl, rfl⟩ hv
  obtain hreceives | hdrains | rfl | rfl | rfl | ⟨b, rfl⟩ := hi
  · cases i with
    | rxb b => exact receiveByte_sameRequest h
    | frame dir => cases dir with
      | inward =>
        refine forEach_keeps (f := receiveByte) (P := SameRequest s) (fun b _ u v hu hv => ?_) ⟨rfl, rfl, rfl⟩ h
        obtain ⟨hco, hexpect, hcnt⟩ := receiveByte_sameRequest hv
        exact ⟨hco.trans hu.1, hexpect.trans hu.2.1, hcnt.trans hu.2.2⟩
      | outward => cases hreceives
    | _ => cases hreceives
  · cases i with
    | drain => exact hdrain h
    | svc => exact hsvc h
    | _ => cases hdrains
  · cases h; exact ⟨rfl, rfl, rfl⟩
  · rw [execTake_eq_next.1 h]; exact ⟨rfl, rfl, rfl⟩
  · cases h; exact ⟨rfl, rfl, rfl⟩
  · cases h; simp

/-! ## Flags of STATUS are sticky (10_state.md R31) -/

/-- The flags of `status` are all set in a state. -/
def State.HasFlags (status : BitVec 7) (s : State) : Prop := status &&& s.status = status

theorem and_or_eq_of_and_eq {a x : BitVec 7} (h : a &&& x = a) (y : BitVec 7) : a &&& (x ||| y) = a := by
  apply BitVec.eq_of_getLsbD_eq
  intro k hk
  have hbit : (a &&& x).getLsbD k = a.getLsbD k := congrArg (BitVec.getLsbD · k) h
  rw [BitVec.getLsbD_and] at hbit
  rw [BitVec.getLsbD_and, BitVec.getLsbD_or, Bool.and_or_distrib_left, hbit, Bool.or_eq_left_iff_imp]
  simp only [Bool.and_eq_true, and_imp]
  exact fun ha _ => ha

theorem hasFlags_of_status_or {status y : BitVec 7} {s t : State} (h : s.HasFlags status)
    (ht : t.status = s.status ||| y) : t.HasFlags status := by
  unfold State.HasFlags
  rw [ht]
  exact and_or_eq_of_and_eq h y

theorem hasFlags_of_status_eq {status : BitVec 7} {s t : State} (h : s.HasFlags status) (ht : t.status = s.status) :
    t.HasFlags status := by
  unfold State.HasFlags
  rw [ht]
  exact h

/-- FEED only adds flags (42_codec_feed.md R122, R132). -/
theorem feedByte_hasFlags {status : BitVec 7} {s : State} (b : Byte) (h : s.HasFlags status) :
    (feedByte b s).HasFlags status := by
  obtain ⟨r, hreports⟩ := feedByte_reports b s
  exact hasFlags_of_status_or h ((congrArg State.status hreports.frame).trans (BitVec.or_assoc ..))

theorem lineIdleReset_hasFlags {status : BitVec 7} {s : State} (h : s.HasFlags status) :
    (lineIdleReset s).HasFlags status := by
  by_cases h0 : s.ofs ≠ 0
  · exact hasFlags_of_status_or h (by rw [lineIdleReset_status, if_pos h0])
  · exact hasFlags_of_status_eq h (by rw [lineIdleReset_status, if_neg h0])

theorem receiveByte_hasFlags {status : BitVec 7} {b : Byte} {s t : State} (h : s.HasFlags status)
    (ht : receiveByte b s = .next t) : t.HasFlags status := by
  obtain ⟨-, rfl⟩ | ⟨-, -, rfl⟩ := receiveByte_eq_next.1 ht
  · exact feedByte_hasFlags b h
  · exact hasFlags_of_status_eq h rfl

theorem runIntruder_hasFlags {status : BitVec 7} {e : Intruder} {s t : State} (he : e ≠ .clrs)
    (h : s.HasFlags status) (ht : runIntruder e s = .next t) : t.HasFlags status := by
  cases e with
  | rxb b => exact receiveByte_hasFlags h ht
  | clrs => exact absurd rfl he
  | idle => cases ht; exact h
  | enc => cases ht; exact h
  | tx => cases ht; exact h
  | take => rw [execTake_eq_next.1 ht]; exact h
  | send => obtain ⟨-, rfl⟩ | ⟨-, rfl⟩ := sendCommand_eq_next.1 ht <;> exact h
  | req => obtain ⟨-, rfl⟩ | ⟨-, rfl⟩ := requestCommand_eq_next.1 ht <;> exact h
  | poll => obtain ⟨-, rfl⟩ | ⟨-, -, -, rfl⟩ | ⟨-, -, -, rfl⟩ | ⟨-, -, -, rfl⟩ := execPoll_eq_next.1 ht <;> exact h
  | tick => rw [execTick_eq_next.1 ht]; split <;> exact h

theorem drainKeeps_flags (status : BitVec 7) : DrainKeeps (· ≠ .clrs) (State.HasFlags status) where
  agent := runIntruder_hasFlags
  slots _ h := h
  read b h := feedByte_hasFlags b h
  cursor _ h := h

/-- Settles O52: every write of STATUS but that of CLRS and RST adds flags. -/
theorem statusFlagsAreSticky : Obligations.StatusFlagsAreSticky := by
  intro i s t h hclrs hrst hslots
  have hs : s.HasFlags s.status := BitVec.and_self
  have hA : s.IntrudersAre (· ≠ .clrs) := fun slot hslot e he heq => hslots slot hslot (heq ▸ he)
  change t.HasFlags s.status
  cases performs_of_exec h with
  | rst => exact absurd rfl hrst
  | feed b ho => cases ho; exact feedByte_hasFlags b hs
  | drain ho => exact ((drainKeeps_flags s.status).drainBuffer hA hs ho.symm).1
  | svc ho => exact (drainKeeps_flags s.status).execSvc (fun h => h) lineIdleReset_hasFlags hA hs ho.symm
  | arrival cmd fb p1 p2 ckH ckL ho =>
    exact forEach_keeps (f := receiveByte) (P := State.HasFlags s.status)
      (fun b _ u v hu hv => receiveByte_hasFlags hu hv) hs ho.symm
  | agent _ e he ho =>
    exact runIntruder_hasFlags (fun heq => hclrs (eq_clrs_of_agentStep (heq ▸ he))) hs ho.symm

end Sys2Proof.Machine
end

section
/-!
CERTIFICATE. The invariant (10_state.md R41, R36): it holds after reset, and every step keeps it. The part
that also holds between the reads of a drain (`FlowInv`) is kept by every sub-step; the part about the read cursor
(`ReadInv`) is restored where the drain ends, with RT grown by the bytes read.
-/

namespace Sys2Proof.Machine

/-! ## The two parts of the invariant -/

/-- The part of the invariant that holds at every point inside a drain too. -/
structure State.FlowInv (s : State) : Prop where
  legal  : s.cfg.wf
  buffer : s.BufInv
  write  : 1 ≤ s.rem ∧ s.rem ≤ s.cfg.capacity ∧ s.wp = s.wt % s.cfg.capacity
  head   : s.HeadInv
  cause  : s.CauseInv

/-- The part about the read cursor, which RC and RT leave and enter again with a drain. -/
structure State.ReadInv (s : State) : Prop where
  lt     : s.rc < s.cfg.capacity
  cursor : s.rc = s.rt % s.cfg.capacity
  le     : s.rt ≤ s.wt

theorem inv_iff {s : State} : s.Inv ↔ s.FlowInv ∧ s.ReadInv := by
  constructor
  · rintro ⟨hcfg, hbuf, ⟨hrem, hremN, hrc, hwp, hrt, hle⟩, hhead, hcause⟩
    exact ⟨⟨hcfg, hbuf, ⟨hrem, hremN, hwp⟩, hhead, hcause⟩, ⟨hrc, hrt, hle⟩⟩
  · rintro ⟨⟨hcfg, hbuf, ⟨hrem, hremN, hwp⟩, hhead, hcause⟩, ⟨hrc, hrt, hle⟩⟩
    exact ⟨hcfg, hbuf, ⟨hrem, hremN, hrc, hwp, hrt, hle⟩, hhead, hcause⟩

theorem headInv_of_ofs_zero {s : State} (h : s.ofs = 0) : s.HeadInv := by
  have hval : s.ofs.val = 0 := congrArg Fin.val h
  exact ⟨fun h1 => by omega, fun h2 => by omega, fun h3 => by omega⟩

/-- Settles O54: at reset the cursors are 0, no frame is open and there is no cause. -/
theorem resetSatisfiesTheInvariant : Obligations.ResetSatisfiesTheInvariant := by
  have hreset (c : Config) (hc : c.wf) : (State.resetWith c).Inv :=
    inv_iff.2
      ⟨{ legal := hc
         buffer := ⟨rfl, nofun⟩
         write := ⟨Nat.le_trans (by decide) hc, Nat.le_refl _, (resetWith_wp c).trans (Nat.zero_mod _).symm⟩
         head := headInv_of_ofs_zero rfl
         cause := ⟨fun _ => rfl, nofun⟩ },
       { lt := Nat.lt_of_lt_of_le Nat.two_pos hc
         cursor := (Nat.zero_mod _).symm
         le := Nat.le_refl 0 }⟩
  exact ⟨hreset, hreset Config.default (by decide)⟩

/-! ## FEED (10_state.md R41) -/

/-- The constants already accepted fit their offsets. -/
theorem headInv_iff {s : State} : s.HeadInv ↔ ∀ j : Fin 10, j.val < s.ofs.val → FitsAt j.val (rbRead s.rb j) := by
  constructor
  · rintro ⟨hstart, hversion, hlength⟩ j hj
    refine ⟨fun h0 => ?_, fun h1 => ?_, fun h2 => ?_⟩
    · obtain rfl : j = 0 := Fin.ext h0
      exact hstart hj
    · obtain rfl : j = 1 := Fin.ext h1
      exact hversion hj
    · obtain rfl : j = 2 := Fin.ext h2
      exact hlength hj
  · intro h
    exact ⟨fun h1 => (h 0 h1).1 rfl, fun h2 => (h 1 h2).2.1 rfl, fun h3 => (h 2 h3).2.2 rfl⟩

theorem fitsAt_zero {b : Byte} : FitsAt 0 b ↔ b = SOF := by simp [FitsAt]

theorem fitsAt_one {b : Byte} : FitsAt 1 b ↔ b = VER := by simp [FitsAt]

theorem fitsAt_two {b : Byte} : FitsAt 2 b ↔ b = LEN := by simp [FitsAt]

theorem fitsAt_variable {k : Nat} (h : 3 ≤ k) (b : Byte) : FitsAt k b := ⟨by omega, by omega, by omega⟩

theorem startFrame_headInv (s : State) : (startFrame s).HeadInv := by
  rw [headInv_iff, startFrame_ofs]
  intro j hj
  obtain rfl : j = 0 := Fin.ext (Nat.lt_one_iff.1 hj)
  exact fitsAt_zero.2 rfl

theorem acceptByte_headInv {b : Byte} {s : State} (h : s.HeadInv) (hlt : s.ofs.val < 9) (hb : FitsAt s.ofs.val b) :
    (acceptByte b s).HeadInv := by
  rw [headInv_iff] at h ⊢
  intro j hj
  rw [acceptByte_ofs, Fin.val_add_one_of_lt hlt] at hj
  rw [acceptByte_rb]
  by_cases hjk : j = s.ofs
  · rw [hjk, rbRead_rbWrite_self]
    exact hb
  · rw [rbRead_rbWrite_ne s.rb b hjk]
    have hne : j.val ≠ s.ofs.val := fun heq => hjk (Fin.ext heq)
    exact h j (by omega)

theorem feedConstant_headInv {expected : Byte} {bad : BitVec 5} {b : Byte} {s : State} (h : s.HeadInv)
    (hlt : s.ofs.val < 9) (hfit : FitsAt s.ofs.val expected) : (feedConstant expected bad b s).HeadInv := by
  obtain ⟨rfl, heq⟩ | ⟨-, -, heq⟩ | ⟨-, -, heq⟩ := feedConstant_cases expected bad b s <;> rw [heq]
  · exact acceptByte_headInv h hlt hfit
  · exact startFrame_headInv s
  · exact headInv_of_ofs_zero rfl

theorem feedEnd_headInv (b : Byte) (s : State) : (feedEnd b s).HeadInv := by
  obtain ⟨-, -, heq⟩ | ⟨-, heq⟩ | ⟨-, -, heq⟩ := feedEnd_cases b s <;> rw [heq]
  · exact headInv_of_ofs_zero rfl
  · exact startFrame_headInv _
  · exact headInv_of_ofs_zero rfl

theorem feedByte_headInv {s : State} (b : Byte) (h : s.HeadInv) : (feedByte b s).HeadInv := by
  obtain ⟨-, -, heq⟩ | ⟨-, -, heq⟩ | ⟨h1, heq⟩ | ⟨h2, heq⟩ | ⟨hlo, hhi, heq⟩ | ⟨-, heq⟩ := feedByte_cases b s <;>
    rw [heq]
  · exact startFrame_headInv s
  · exact h
  · exact feedConstant_headInv h (by rw [h1]; decide) (by rw [h1]; exact fitsAt_one.2 rfl)
  · exact feedConstant_headInv h (by rw [h2]; decide) (by rw [h2]; exact fitsAt_two.2 rfl)
  · exact acceptByte_headInv h (by omega) (fitsAt_variable hlo b)
  · exact feedEnd_headInv b s

theorem feedByte_wp (b : Byte) (s : State) : (feedByte b s).wp = s.wp := by
  unfold State.wp
  rw [feedByte_cfg, feedByte_rem]

theorem feedByte_flowInv {s : State} (b : Byte) (h : s.FlowInv) : (feedByte b s).FlowInv where
  legal := by rw [feedByte_cfg]; exact h.legal
  buffer := by
    unfold State.BufInv
    rw [feedByte_buf, feedByte_cfg]
    exact h.buffer
  write := by
    rw [feedByte_rem, feedByte_wp, feedByte_cfg, feedByte_wt]
    exact h.write
  head := feedByte_headInv b h.head
  cause := feedByte_causeInv b s

/-! ## RXB in MODE = DRAIN (43_ingest.md R150) -/

/-- The state after a byte is stored, counted and notified. -/
def storeReceived (b : Byte) (s : State) : State := notifyMilestones (countByte (storeByte s.wp b s))

theorem receiveByte_of_drain {s : State} (hmode : s.cfg.mode = .drain) (hcfg : s.cfg.wf) (b : Byte) :
    receiveByte b s = .next (storeReceived b s) :=
  receiveByte_eq_next.2 (.inr ⟨hmode, wp_lt hcfg, rfl⟩)

/-- The write cursor moves on by one, around the buffer (10_state.md R28). -/
theorem writeCursor_countDown {n rem wt : Nat} (hrem : 1 ≤ rem) (hremN : rem ≤ n)
    (hwp : writeCursor n rem = wt % n) : writeCursor n (countDown n rem) = (wt + 1) % n := by
  unfold writeCursor at hwp ⊢
  rw [Nat.mod_eq_of_lt (by omega)] at hwp
  rw [← Nat.mod_add_mod, ← hwp]
  unfold countDown
  split_ifs with h1
  · rw [h1, Nat.sub_self, Nat.sub_add_cancel (h1 ▸ hremN), Nat.zero_mod, Nat.mod_self]
  · congr 1
    omega

theorem countDown_range {n rem : Nat} (hrem : 1 ≤ rem) (hremN : rem ≤ n) :
    1 ≤ countDown n rem ∧ countDown n rem ≤ n := by
  unfold countDown
  split_ifs <;> omega

theorem storeReceived_bufInv {s : State} (b : Byte) (hcfg : s.cfg.wf) (h : s.BufInv) : (storeReceived b s).BufInv := by
  refine ⟨memSet_wf s.wp b h.1, fun c hc => ?_⟩
  obtain hold | rfl := memSet_mem hc
  · exact h.2 c hold
  · exact wp_lt hcfg

theorem storeReceived_flowInv {s : State} (b : Byte) (h : s.FlowInv) : (storeReceived b s).FlowInv where
  legal := h.legal
  buffer := storeReceived_bufInv b h.legal h.buffer
  write := by
    obtain ⟨hrem, hremN, hwp⟩ := h.write
    obtain ⟨hrem', hremN'⟩ := countDown_range hrem hremN
    exact ⟨hrem', hremN', writeCursor_countDown hrem hremN hwp⟩
  head := h.head
  cause := h.cause

/-! ## The steps of agents -/

theorem quiet_flowInv {s t : State} (hquiet : Quiet s t) (h : s.FlowInv) : t.FlowInv where
  legal := hquiet.cfg ▸ h.legal
  buffer := by
    unfold State.BufInv
    rw [hquiet.buf, hquiet.cfg]
    exact h.buffer
  write := by
    unfold State.wp
    rw [hquiet.rem, hquiet.cfg, hquiet.wt]
    exact h.write
  head := by
    obtain hsame | hzero := hquiet.ofs
    · unfold State.HeadInv
      rw [hsame, hquiet.rb]
      exact h.head
    · exact headInv_of_ofs_zero hzero
  cause := by
    unfold State.CauseInv
    rw [hquiet.res, hquiet.cause]
    exact h.cause

/-- The bytes counted by the write side never go down but with an RST. -/
theorem receiveByte_flowInv {b : Byte} {s t : State} (h : s.FlowInv) (ht : receiveByte b s = .next t) :
    t.FlowInv ∧ s.wt ≤ t.wt := by
  obtain ⟨-, rfl⟩ | ⟨-, -, rfl⟩ := receiveByte_eq_next.1 ht
  · exact ⟨feedByte_flowInv b h, Nat.le_of_eq (feedByte_wt b s).symm⟩
  · exact ⟨storeReceived_flowInv b h, Nat.le_succ _⟩

theorem runIntruder_flowInv {e : Intruder} {s t : State} (h : s.FlowInv) (ht : runIntruder e s = .next t) :
    t.FlowInv ∧ s.wt ≤ t.wt := by
  by_cases he : ∃ b, e = .rxb b
  · obtain ⟨b, rfl⟩ := he
    exact receiveByte_flowInv h ht
  · have hquiet : Quiet s t := runIntruder_quiet ht (not_exists.1 he)
    exact ⟨quiet_flowInv hquiet h, Nat.le_of_eq hquiet.wt.symm⟩

/-- Where RC and RT stay and WT does not go down, the read cursor stays in its place. -/
theorem readInv_of_frame {s t : State} (h : s.ReadInv) (hcfg : t.cfg = s.cfg) (hrc : t.rc = s.rc) (hrt : t.rt = s.rt)
    (hwt : s.wt ≤ t.wt) : t.ReadInv where
  lt := by rw [hrc, hcfg]; exact h.lt
  cursor := by rw [hrc, hrt, hcfg]; exact h.cursor
  le := by rw [hrt]; exact Nat.le_trans h.le hwt

theorem receiveByte_inv {b : Byte} {s t : State} (h : s.Inv) (ht : receiveByte b s = .next t) : t.Inv := by
  obtain ⟨hflow, hread⟩ := inv_iff.1 h
  obtain ⟨hflow', hwt⟩ := receiveByte_flowInv hflow ht
  obtain ⟨hcfg, hrc, hrt, -⟩ := receiveByte_frame ht
  exact inv_iff.2 ⟨hflow', readInv_of_frame hread hcfg hrc hrt hwt⟩

theorem runIntruder_inv {e : Intruder} {s t : State} (h : s.Inv) (ht : runIntruder e s = .next t) : t.Inv := by
  obtain ⟨hflow, hread⟩ := inv_iff.1 h
  obtain ⟨hflow', hwt⟩ := runIntruder_flowInv hflow ht
  obtain ⟨hcfg, hrc, hrt, -⟩ := runIntruder_frame ht
  exact inv_iff.2 ⟨hflow', readInv_of_frame hread hcfg hrc hrt hwt⟩

theorem interleave_inv {s t : State} (h : s.Inv) (ht : interleave s = .next t) : t.Inv := by
  obtain ⟨-, rfl⟩ | ⟨slot, rest, -, ht⟩ := interleave_eq_next.1 ht
  · exact h
  · have hslot : (setBetween rest s).Inv := h
    exact forEach_keeps (P := State.Inv) (fun _ _ _ _ hu hv => runIntruder_inv hu hv) hslot ht

/-! ## The drain -/

/-- The distance between two cursors is the distance of the counters they stand for, around the buffer. -/
theorem unread_cursor {n rt wt : Nat} (hn : 0 < n) (hle : rt ≤ wt) :
    (wt % n + n - rt % n) % n = (wt - rt) % n := by
  have hltr : rt % n < n := Nat.mod_lt _ hn
  have hsum : (wt - rt) + rt = wt := Nat.sub_add_cancel hle
  have hshift : (wt % n + n - rt % n) + rt % n = wt % n + n := by omega
  have hcong : (wt % n + n - rt % n) + rt % n ≡ (wt - rt) + rt % n [MOD n] := by
    rw [hshift]
    calc wt % n + n ≡ wt % n [MOD n] := by simp [Nat.ModEq]
      _ ≡ wt [MOD n] := Nat.mod_modEq wt n
      _ = (wt - rt) + rt := hsum.symm
      _ ≡ (wt - rt) + rt % n [MOD n] := (Nat.mod_modEq rt n).symm.add_left _
  exact Nat.ModEq.add_right_cancel' _ hcong

theorem unread_eq {s : State} (h : s.Inv) : s.unread = (s.wt - s.rt) % s.cfg.capacity := by
  obtain ⟨hflow, hread⟩ := inv_iff.1 h
  unfold State.unread
  rw [hflow.write.2.2, hread.cursor]
  exact unread_cursor (Nat.lt_of_lt_of_le (by decide) hflow.legal) hread.le

/-- A drain of the unread bytes brings RT to the snapshot again. -/
theorem unread_reaches_wp {s : State} (h : s.Inv) :
    s.wp = (s.rt + s.unread) % s.cfg.capacity ∧ s.rt + s.unread ≤ s.wt := by
  obtain ⟨hflow, hread⟩ := inv_iff.1 h
  have hle : (s.wt - s.rt) % s.cfg.capacity ≤ s.wt - s.rt := Nat.mod_le _ _
  have hrt := hread.le
  rw [unread_eq h, hflow.write.2.2, Nat.add_mod_mod, Nat.add_sub_cancel' hrt]
  exact ⟨rfl, by omega⟩

/-- How many bytes a drain reads (43_ingest.md R154, R165). -/
theorem drainIndices_length {n rc w : Nat} (hrc : rc < n) (hw : w < n) :
    (drainIndices n rc w).length = (w + n - rc) % n := by
  unfold drainIndices
  split_ifs with hsame hlinear
  · rw [hsame, Nat.add_sub_cancel_left, Nat.mod_self]
    rfl
  · rw [List.length_range', show w + n - rc = (w - rc) + n by omega, Nat.add_mod_right, Nat.mod_eq_of_lt (by omega)]
  · rw [List.length_append, List.length_range', List.length_range', Nat.mod_eq_of_lt (by omega)]
    omega

theorem forEach_drainByte_rt {is : List Nat} {s t : State} (h : forEach drainByte is s = .next t) :
    t.rt = s.rt + is.length := by
  induction is generalizing s with
  | nil => cases h; rfl
  | cons i is ih =>
    obtain ⟨v, hv, ht⟩ := andThen_eq_next.1 h
    obtain ⟨u, hu, -, rfl⟩ := drainByte_eq_next.1 hv
    have hrt : u.rt = s.rt := (interleave_frame hu).2.2.1
    rw [ih ht, feedByte_rt, countRead_rt, hrt, List.length_cons]
    omega

/-- Where a drain leaves the read side (43_ingest.md R154). -/
theorem drainTo_readSide {w : Nat} {s t : State} (hrc : s.rc < s.cfg.capacity) (hw : w < s.cfg.capacity)
    (h : drainTo w s = .next t) : t.rc = w ∧ t.rt = s.rt + (w + s.cfg.capacity - s.rc) % s.cfg.capacity := by
  obtain ⟨rfl, rfl⟩ | ⟨-, u, v, hu, hv, rfl⟩ := drainTo_eq_next.1 h
  · rw [Nat.add_sub_cancel_left, Nat.mod_self]
    exact ⟨rfl, rfl⟩
  · have hrt : v.rt = u.rt := (interleave_frame hv).2.2.1
    refine ⟨rfl, ?_⟩
    rw [setReadCursor_rt, hrt, forEach_drainByte_rt hu, drainIndices_length hrc hw]

theorem drainKeeps_flowInv (wt : Nat) : DrainKeeps (fun _ => True) fun u => u.FlowInv ∧ wt ≤ u.wt where
  agent _ h ht := by
    obtain ⟨hflow, hwt⟩ := runIntruder_flowInv h.1 ht
    exact ⟨hflow, Nat.le_trans h.2 hwt⟩
  slots _ h := ⟨{ h.1 with }, h.2⟩
  read {s} b h := by
    have hcounted : (countRead s).FlowInv := { h.1 with }
    exact ⟨feedByte_flowInv b hcounted, by rw [feedByte_wt]; exact h.2⟩
  cursor _ h := ⟨{ h.1 with }, h.2⟩

theorem drainBuffer_inv {s t : State} (h : s.Inv) (ht : drainBuffer s = .next t) : t.Inv := by
  obtain ⟨hflow, hread⟩ := inv_iff.1 h
  obtain ⟨⟨hflow', hwt⟩, -⟩ :=
    (drainKeeps_flowInv s.wt).drainBuffer (intrudersAre_any s) ⟨hflow, Nat.le_refl _⟩ ht
  obtain ⟨-, rfl⟩ | ⟨-, hto⟩ := drainBuffer_eq_next.1 ht
  · exact h
  · obtain ⟨hrc, hrt⟩ := drainTo_readSide hread.lt (wp_lt hflow.legal) hto
    have hcfg : t.cfg = s.cfg := drainTo_keeps_cfg hto
    obtain ⟨hcursor, hle⟩ := unread_reaches_wp h
    refine inv_iff.2 ⟨hflow', ⟨?_, ?_, ?_⟩⟩
    · rw [hrc, hcfg]
      exact wp_lt hflow.legal
    · rw [hrc, hrt, hcfg]
      exact hcursor
    · rw [hrt]
      exact Nat.le_trans hle hwt

theorem lineIdleReset_inv {s : State} (h : s.Inv) : (lineIdleReset s).Inv := by
  obtain ⟨hflow, hread⟩ := inv_iff.1 h
  refine inv_iff.2 ⟨⟨?_, ?_, ?_, headInv_of_ofs_zero rfl, ?_⟩, ⟨?_, ?_, ?_⟩⟩
  · simpa using hflow.legal
  · simpa [State.BufInv] using hflow.buffer
  · simpa [State.wp] using hflow.write
  · simpa [State.CauseInv] using hflow.cause
  · simpa using hread.lt
  · simpa using hread.cursor
  · simpa using hread.le

theorem execSvc_inv {s t : State} (h : s.Inv) (ht : execSvc s = .next t) : t.Inv := by
  obtain ⟨-, hservice⟩ | ⟨-, rfl⟩ := execSvc_eq_next.1 ht
  · obtain ⟨u, v, w, hu, hv, hw, rfl⟩ := service_eq_next.1 hservice
    have hcleared : (clearPending s).Inv := h
    have hbody : w.Inv := interleave_inv (drainBuffer_inv (interleave_inv hcleared hu) hv) hw
    split
    · exact lineIdleReset_inv hbody
    · exact hbody
  · exact h

/-! ## Every step -/

theorem execRst_inv {s t : State} (h : s.Inv) (ht : execRst s = .next t) : t.Inv := by
  obtain ⟨hflow, -⟩ := inv_iff.1 h
  have hpos : 1 ≤ s.cfg.capacity := Nat.le_trans (by decide) hflow.legal
  cases ht
  refine inv_iff.2 ⟨⟨hflow.legal, hflow.buffer, ⟨hpos, Nat.le_refl _, ?_⟩, headInv_of_ofs_zero rfl, ?_⟩,
    ⟨hpos, (Nat.zero_mod _).symm, Nat.le_refl 0⟩⟩
  · change (s.cfg.capacity - s.cfg.capacity) % s.cfg.capacity = 0 % s.cfg.capacity
    rw [Nat.sub_self]
  · exact ⟨fun _ => rfl, nofun⟩

theorem exec_inv {i : Instr} {s t : State} (h : s.Inv) (ht : exec i s = .next t) : t.Inv := by
  cases performs_of_exec ht with
  | rst ho => exact execRst_inv h ho.symm
  | feed b ho =>
    cases ho
    obtain ⟨hflow, hread⟩ := inv_iff.1 h
    exact inv_iff.2 ⟨feedByte_flowInv b hflow, readInv_of_frame hread (by simp) (by simp) (by simp) (by simp)⟩
  | drain ho => exact drainBuffer_inv h ho.symm
  | svc ho => exact execSvc_inv h ho.symm
  | arrival cmd fb p1 p2 ckH ckL ho =>
    exact forEach_keeps (P := State.Inv) (fun _ _ _ _ hu hv => receiveByte_inv hu hv) h ho.symm
  | agent _ e _ ho => exact runIntruder_inv h ho.symm

/-- Settles O55: a step rests or runs one operation, and the invariant does not speak of the schedule. -/
theorem everyStepKeepsTheInvariant : Obligations.EveryStepKeepsTheInvariant := by
  intro s t h ht
  obtain ⟨-, rfl⟩ | ⟨i, rest, -, -, hexec⟩ := step_eq_next.1 ht
  · exact h
  · have hscheduled : ({ s with schedule := rest } : State).Inv := h
    exact exec_inv hscheduled hexec

end Sys2Proof.Machine
end

section
/-!
CERTIFICATE. The statements of 42_codec_feed.md on what FEED accepts: where a start marker restarts reconstruction
(R129), the acceptance invariant (R135 (1)), and that one flipped bit of a well-formed frame is never accepted (R135
(2)). The last goes by the results of the first nine bytes: none completes, and unless each byte is accepted in turn
one is Invalid.
-/

namespace Sys2Proof.Machine

/-! ## Start markers (42_codec_feed.md R129) -/

/-- Where a constant is expected, a start marker is Invalid and opens a new frame; the latch stays. -/
theorem feedByte_marker_resyncs {s : State} (h : s.ofs = 1 ∨ s.ofs = 2 ∨ s.ofs = 9) :
    ∃ (bad : BitVec 5) (u : State), feedByte SOF s = report .invalid (bad ||| resync) (startFrame u) ∧
      u.last = s.last ∧ u.rdy = s.rdy := by
  obtain h1 | h2 | h9 := h
  · exact ⟨badVer, s, feedByte_of_ofs_one h1 SOF, rfl, rfl⟩
  · exact ⟨badLen, s, feedByte_of_ofs_two h2 SOF, rfl, rfl⟩
  · exact ⟨_, storeEnd SOF s, feedByte_resynchronises h9, rfl, rfl⟩

/-- Everywhere else a start marker is accepted, as the first byte or as data. -/
theorem feedByte_marker_accepted {s : State} (h : ¬(s.ofs = 1 ∨ s.ofs = 2 ∨ s.ofs = 9)) :
    feedByte SOF s = report .incomplete causeNone (acceptByte SOF s) ∧ s.ofs.val < 9 := by
  have hlt : s.ofs.val < 9 := by omega
  exact ⟨feedByte_of_fitsAt hlt ⟨fun _ => rfl, by omega, by omega⟩, hlt⟩

/-- Settles O16. -/
theorem resynchronisationOnlyAtConstantOffsets : Obligations.ResynchronisationOnlyAtConstantOffsets := by
  intro s t h
  obtain rfl : feedByte SOF s = t := Host.Outcome.next.inj h
  by_cases hconst : s.ofs = 1 ∨ s.ofs = 2 ∨ s.ofs = 9
  · obtain ⟨bad, u, heq, hlast, hrdy⟩ := feedByte_marker_resyncs hconst
    have hresync : (bad ||| resync).getLsbD 4 = true := by
      rw [BitVec.getLsbD_or, show resync.getLsbD 4 = true from rfl, Bool.or_true]
    rw [heq]
    exact ⟨⟨fun _ => rfl, fun _ => hconst⟩, fun _ => ⟨hresync, rfl, rfl, hlast, hrdy⟩, fun hdata => by omega⟩
  · obtain ⟨heq, hlt⟩ := feedByte_marker_accepted hconst
    rw [heq]
    exact ⟨⟨fun hc => absurd hc hconst, nofun⟩, nofun, fun _ => Fin.val_add_one_of_lt hlt⟩

/-! ## The acceptance invariant (42_codec_feed.md R135 (1)) -/

theorem feedConstant_not_complete (expected : Byte) (bad : BitVec 5) (b : Byte) (s : State) :
    (feedConstant expected bad b s).res ≠ .complete := by
  obtain ⟨-, heq⟩ | ⟨-, -, heq⟩ | ⟨-, -, heq⟩ := feedConstant_cases expected bad b s <;> rw [heq] <;> exact nofun

/-- FEED completes only with the end marker of a frame whose checksum matches. -/
theorem feedByte_complete_iff {b : Byte} {s : State} :
    (feedByte b s).res = .complete ↔ s.ofs = 9 ∧ b = EOF ∧ s.checksumMatches := by
  refine ⟨fun hres => ?_, ?_⟩
  · obtain ⟨-, -, heq⟩ | ⟨-, -, heq⟩ | ⟨-, heq⟩ | ⟨-, heq⟩ | ⟨-, -, heq⟩ | ⟨h9, heq⟩ := feedByte_cases b s <;>
      rw [heq] at hres
    · cases hres
    · cases hres
    · exact absurd hres (feedConstant_not_complete _ _ b s)
    · exact absurd hres (feedConstant_not_complete _ _ b s)
    · cases hres
    · obtain ⟨hend, hok, -⟩ | ⟨-, heq⟩ | ⟨-, -, heq⟩ := feedEnd_cases b s
      · exact ⟨h9, hend, rbChecksumOk_storeEnd.1 hok⟩
      · rw [heq] at hres; cases hres
      · rw [heq] at hres; cases hres
  · rintro ⟨h9, rfl, hchk⟩
    rw [feedByte_completes h9 hchk]
    rfl

/-- Settles O17: with the constants in RB the six covered bytes start with `FF 06`, and their sum does not wrap. -/
theorem onlyValidFramesComplete : Obligations.OnlyValidFramesComplete := by
  intro s t b hhead h hres
  obtain rfl : feedByte b s = t := Host.Outcome.next.inj h
  obtain ⟨h9, rfl, hchk⟩ := feedByte_complete_iff.1 hres
  obtain ⟨hstart, hversion, hlength⟩ := hhead
  have hval : s.ofs.val = 9 := congrArg Fin.val h9
  have hversion : s.rb.VERSION = 0xFF#8 := hversion (by omega)
  have hlength : s.rb.LENGTH = 0x06#8 := hlength (by omega)
  refine ⟨h9, rfl, hstart (by omega), hversion, hlength, ?_, ?_⟩
  · unfold State.checksumMatches at hchk
    rw [hversion, hlength, BitVec.toNat_ofNat, BitVec.toNat_ofNat] at hchk
    omega
  · rw [feedByte_completes h9 hchk]
    exact ⟨rfl, rfl⟩

/-! ## The results of bytes in a row -/

/-- One FEED emits one result, the one RES records. -/
theorem feedByte_trace (b : Byte) (s : State) :
    ∃ r, (feedByte b s).trace = s.trace ++ [.result (.fed r)] ∧ (feedByte b s).res = resOf r := by
  obtain ⟨r, hreports⟩ := feedByte_reports b s
  exact ⟨r, congrArg State.trace hreports.frame, congrArg State.res hreports.frame⟩

theorem feedConstant_of_ne {expected b : Byte} (bad : BitVec 5) (s : State) (hne : b ≠ expected) :
    (feedConstant expected bad b s).res = .invalid ∧ (feedConstant expected bad b s).ofs.val ≤ 1 := by
  obtain ⟨heq, -⟩ | ⟨-, -, heq⟩ | ⟨-, -, heq⟩ := feedConstant_cases expected bad b s
  · exact absurd heq hne
  · rw [heq]; exact ⟨rfl, Nat.le_refl 1⟩
  · rw [heq]; exact ⟨rfl, Nat.zero_le 1⟩

/-- A byte that does not fit below offset 9 is ignored at offset 0 and Invalid elsewhere; OFS does not go up. -/
theorem feedByte_of_not_fitsAt {b : Byte} {s : State} (hlt : s.ofs.val < 9) (hb : ¬FitsAt s.ofs.val b) :
    (s.ofs ≠ 0 → (feedByte b s).res = .invalid) ∧ (feedByte b s).ofs.val ≤ s.ofs.val := by
  obtain ⟨h0, hsof, -⟩ | ⟨h0, -, heq⟩ | ⟨h1, heq⟩ | ⟨h2, heq⟩ | ⟨hlo, -⟩ | ⟨h9, -⟩ := feedByte_cases b s
  · exact absurd (by rw [h0]; exact fitsAt_zero.2 hsof) hb
  · rw [heq]
    exact ⟨fun hpos => absurd h0 hpos, Nat.le_refl _⟩
  · rw [h1] at hb ⊢
    obtain ⟨hres, hofs⟩ := feedConstant_of_ne badVer s (mt fitsAt_one.2 hb)
    rw [heq]
    exact ⟨fun _ => hres, hofs⟩
  · rw [h2] at hb ⊢
    obtain ⟨hres, hofs⟩ := feedConstant_of_ne badLen s (mt fitsAt_two.2 hb)
    rw [heq]
    exact ⟨fun _ => hres, Nat.le_trans hofs (Nat.le_succ 1)⟩
  · exact absurd (fitsAt_variable hlo b) hb
  · exact absurd (congrArg Fin.val h9) (Nat.ne_of_lt hlt)

/-- OFS goes up by one where the byte fits its offset, and never by more. -/
theorem feedByte_ofs_le (b : Byte) (s : State) :
    (feedByte b s).ofs.val ≤ s.ofs.val + 1 ∧ ((feedByte b s).ofs.val = s.ofs.val + 1 → FitsAt s.ofs.val b) := by
  by_cases hlt : s.ofs.val < 9
  · by_cases hb : FitsAt s.ofs.val b
    · rw [feedByte_of_fitsAt hlt hb, report_ofs, acceptByte_ofs, Fin.val_add_one_of_lt hlt]
      exact ⟨Nat.le_refl _, fun _ => hb⟩
    · obtain ⟨-, hle⟩ := feedByte_of_not_fitsAt hlt hb
      exact ⟨by omega, by omega⟩
  · exact ⟨by omega, by omega⟩

/-- What is known of at most nine bytes fed from `s`, at the start of a frame, up to `t`, with the results they gave:
one each, none of them Complete; OFS stays below their number unless each was accepted; and if the first is a start
marker and no result is Invalid, each was. -/
structure FedWithout (bs : List Byte) (s t : State) (results : List Emission) : Prop where
  trace    : t.trace = s.trace ++ results
  length   : results.length = bs.length
  complete : ∀ g : FrameFields, Emission.result (.fed (.complete g)) ∉ results
  ofs      : t.ofs.val ≤ bs.length
  accepted : t.ofs.val = bs.length → Accepted bs s t
  invalid  : bs[0]? = some SOF → Emission.result (.fed .invalid) ∈ results ∨ t.ofs.val = bs.length

theorem FedWithout.snoc {bs : List Byte} {b : Byte} {s t : State} {results : List Emission}
    (h : FedWithout bs s t results) (hlen : bs.length < 9) :
    ∃ r, FedWithout (bs ++ [b]) s (feedByte b t) (results ++ [.result (.fed r)]) := by
  obtain ⟨r, htrace, hres⟩ := feedByte_trace b t
  obtain ⟨hle, hfits⟩ := feedByte_ofs_le b t
  have hofs := h.ofs
  refine ⟨r, ⟨?_, ?_, fun g hg => ?_, ?_, fun hall => ?_, fun hsof => ?_⟩⟩
  · rw [htrace, h.trace, List.append_assoc]
  · simp [h.length]
  · obtain hg | hg := List.mem_append.1 hg
    · exact h.complete g hg
    · obtain rfl : r = .complete g := by simpa [eq_comm] using hg
      have h9 : t.ofs = 9 := (feedByte_complete_iff.1 hres).1
      have hval : t.ofs.val = 9 := congrArg Fin.val h9
      omega
  · rw [List.length_append, List.length_singleton]
    omega
  · rw [List.length_append, List.length_singleton] at hall
    have hbefore : t.ofs.val = bs.length := by omega
    exact (h.accepted hbefore).snoc hlen (hbefore ▸ hfits (by omega))
  · rw [List.length_append, List.length_singleton]
    by_cases hfit : FitsAt bs.length b
    · obtain hinvalid | hbefore : Emission.result (.fed .invalid) ∈ results ∨ t.ofs.val = bs.length := by
        cases bs with
        | nil => exact .inr (Nat.le_zero.1 hofs)
        | cons c cs => exact h.invalid hsof
      · exact .inl (List.mem_append_left _ hinvalid)
      · have hnext : Accepted (bs ++ [b]) s (feedByte b t) := (h.accepted hbefore).snoc hlen hfit
        exact .inr (hnext.ofs.trans (by simp))
    · cases bs with
      | nil =>
        obtain rfl : b = SOF := Option.some.inj hsof
        exact absurd (fitsAt_zero.2 rfl) hfit
      | cons c cs =>
        obtain hinvalid | hbefore := h.invalid hsof
        · exact .inl (List.mem_append_left _ hinvalid)
        · have hpos : t.ofs ≠ 0 := fun h0 => by simp [h0] at hbefore
          rw [(feedByte_of_not_fitsAt (by omega) (hbefore ▸ hfit)).1 hpos] at hres
          obtain rfl : r = .invalid := by cases r <;> cases hres; rfl
          exact .inl (List.mem_append_right _ List.mem_cons_self)

theorem feedAll_fedWithout {bs : List Byte} {s : State} (hs : s.ofs = 0) (hlen : bs.length ≤ 9) :
    ∃ results, FedWithout bs s (feedAll bs s) results := by
  induction bs using List.reverseRecOn with
  | nil =>
    exact ⟨[], (List.append_nil _).symm, rfl, by simp, Nat.le_of_eq (congrArg Fin.val hs), fun _ => accepted_nil hs,
      nofun⟩
  | append_singleton bs b ih =>
    rw [List.length_append, List.length_singleton] at hlen
    obtain ⟨results, hbefore⟩ := ih (by omega)
    obtain ⟨r, hafter⟩ := hbefore.snoc (b := b) (by omega)
    rw [feedAll_append_singleton]
    exact ⟨_, hafter⟩

/-! ## Ten bytes that are no frame -/

/-- The state that holds the first nine bytes of ten accepts the tenth exactly if the ten are a well-formed frame. -/
theorem Accepted.checksumMatches_iff {f : Frame} {s t : State} (h : Accepted (frameHead f) s t) :
    t.checksumMatches ↔
      checksumOk f.version f.length f.command f.feedback f.param1 f.param2 f.ckHigh f.ckLow = true := by
  unfold State.checksumMatches
  rw [h.rb_eq]
  exact checksumOk_iff.symm

theorem feedAll_headInv {s : State} (bs : List Byte) (h : s.HeadInv) : (feedAll bs s).HeadInv := by
  induction bs generalizing s with
  | nil => exact h
  | cons b bs ih => exact ih (feedByte_headInv b h)

theorem feedAll_accepted_constants {f : Frame} {s : State} (hs : s.ofs = 0)
    (h : Accepted (frameHead f) s (feedAll (frameHead f) s)) : f.start = SOF ∧ f.version = VER ∧ f.length = LEN := by
  obtain ⟨hstart, hversion, hlength⟩ := feedAll_headInv (frameHead f) (headInv_of_ofs_zero hs)
  have hofs : (feedAll (frameHead f) s).ofs.val = 9 := h.ofs
  have hrb := h.rb_eq
  generalize feedAll (frameHead f) s = t at *
  rw [hrb] at hstart hversion hlength
  exact ⟨hstart (by omega), hversion (by omega), hlength (by omega)⟩

theorem feedByte_nine_invalid {b : Byte} {s : State} (h9 : s.ofs = 9) (h : (feedByte b s).res ≠ .complete) :
    (feedByte b s).res = .invalid := by
  rw [feedByte_of_ofs_nine h9] at h ⊢
  obtain ⟨-, -, heq⟩ | ⟨-, heq⟩ | ⟨-, -, heq⟩ := feedEnd_cases b s <;> rw [heq] at h ⊢
  · exact absurd rfl h
  · rfl
  · rfl

/-- Ten bytes that are no well-formed frame, fed from the start of a frame: none completes, and if they open with a
start marker one is Invalid. -/
theorem feedAll_not_wellFormed {f : Frame} {s : State} (hs : s.ofs = 0) (hf : frameWellFormed f = false) :
    ∃ results, (feedAll (frameBytes f) s).trace = s.trace ++ results ∧ results.length = 10 ∧
      (∀ g : FrameFields, Emission.result (.fed (.complete g)) ∉ results) ∧
      (f.start = SOF → Emission.result (.fed .invalid) ∈ results) := by
  obtain ⟨results, hhead⟩ := feedAll_fedWithout (bs := frameHead f) hs (Nat.le_refl 9)
  rw [frameBytes_eq_head_append, feedAll_append_singleton]
  obtain ⟨r, htrace, hres⟩ := feedByte_trace f.endMark (feedAll (frameHead f) s)
  have hreject : (feedByte f.endMark (feedAll (frameHead f) s)).res ≠ .complete := fun hcomplete => by
    obtain ⟨h9, hend, hchk⟩ := feedByte_complete_iff.1 hcomplete
    have haccepted := hhead.accepted (congrArg Fin.val h9)
    obtain ⟨hstart, hversion, hlength⟩ := feedAll_accepted_constants hs haccepted
    have hwell : frameWellFormed f = true :=
      frameWellFormed_iff.2 ⟨hstart, hversion, hlength, hend, haccepted.checksumMatches_iff.1 hchk⟩
    rw [hf] at hwell
    cases hwell
  refine ⟨results ++ [.result (.fed r)], ?_, ?_, fun g hg => ?_, fun hsof => ?_⟩
  · rw [htrace, hhead.trace, List.append_assoc]
  · rw [List.length_append, hhead.length]
    rfl
  · obtain hg | hg := List.mem_append.1 hg
    · exact hhead.complete g hg
    · obtain rfl : r = .complete g := by simpa [eq_comm] using hg
      exact hreject hres
  · obtain hinvalid | h9 := hhead.invalid (congrArg some hsof)
    · exact List.mem_append_left _ hinvalid
    · rw [feedByte_nine_invalid (Fin.ext h9) hreject] at hres
      obtain rfl : r = .invalid := by cases r <;> cases hres; rfl
      exact List.mem_append_right _ List.mem_cons_self

/-! ## One byte of a frame changed (42_codec_feed.md R135 (2)) -/

/-- The frame with the byte at one offset changed by `g`. -/
def modifyFrame (offset : Fin 10) (g : Byte → Byte) (f : Frame) : Frame :=
  match offset with
  | 0 => { f with start := g f.start }
  | 1 => { f with version := g f.version }
  | 2 => { f with length := g f.length }
  | 3 => { f with command := g f.command }
  | 4 => { f with feedback := g f.feedback }
  | 5 => { f with param1 := g f.param1 }
  | 6 => { f with param2 := g f.param2 }
  | 7 => { f with ckHigh := g f.ckHigh }
  | 8 => { f with ckLow := g f.ckLow }
  | 9 => { f with endMark := g f.endMark }

theorem frameBytes_modifyFrame (offset : Fin 10) (g : Byte → Byte) (f : Frame) :
    frameBytes (modifyFrame offset g f) = (frameBytes f).modify offset.val g := by
  fin_cases offset <;> rfl

theorem modifyFrame_start {offset : Fin 10} (h : offset ≠ 0) (g : Byte → Byte) (f : Frame) :
    (modifyFrame offset g f).start = f.start := by
  fin_cases offset
  · exact absurd rfl h
  all_goals rfl

/-- No two well-formed frames differ in one byte: the constants are fixed, and the checksum tells any two values of one
covered byte apart, since the covered sum never wraps. -/
theorem modifyFrame_not_wellFormed {f : Frame} (hf : frameWellFormed f = true) (offset : Fin 10) {g : Byte → Byte}
    (hg : ∀ b, g b ≠ b) : frameWellFormed (modifyFrame offset g f) = false := by
  obtain ⟨hstart, hversion, hlength, hend, hchk⟩ := frameWellFormed_iff.1 hf
  rw [checksumOk_iff] at hchk
  have hgNat (b : Byte) : (g b).toNat ≠ b.toNat := fun h => hg b (BitVec.eq_of_toNat_eq h)
  rw [Bool.eq_false_iff]
  intro hf'
  obtain ⟨hstart', hversion', hlength', hend', hchk'⟩ := frameWellFormed_iff.1 hf'
  rw [checksumOk_iff] at hchk'
  fin_cases offset <;> dsimp only [modifyFrame] at *
  · exact hg f.start (hstart'.trans hstart.symm)
  · exact hg f.version (hversion'.trans hversion.symm)
  · exact hg f.length (hlength'.trans hlength.symm)
  · have hne := hgNat f.command; omega
  · have hne := hgNat f.feedback; omega
  · have hne := hgNat f.param1; omega
  · have hne := hgNat f.param2; omega
  · have hne := hgNat f.ckHigh; omega
  · have hne := hgNat f.ckLow; omega
  · exact hg f.endMark (hend'.trans hend.symm)

theorem flipBit_ne (bit : Fin 8) (b : Byte) : b ^^^ (1#8 <<< bit.val) ≠ b := by
  have hmask : (1#8 <<< bit.val : Byte) ≠ 0#8 := by
    revert bit
    decide
  intro h
  exact hmask (by simpa [← BitVec.xor_assoc] using congrArg (b ^^^ ·) h)

/-- Settles O19: the flipped frame is not well formed, and only a flip in the start marker keeps it from opening. -/
theorem oneFlippedBitNeverCompletes : Obligations.OneFlippedBitNeverCompletes := by
  intro s f offset bit hs
  rw [← frameBytes_modifyFrame]
  obtain ⟨results, htrace, hlength, hcomplete, hinvalid⟩ := feedAll_not_wellFormed hs
    (modifyFrame_not_wellFormed (frameOfFields_wellFormed f) offset (flipBit_ne bit))
  exact ⟨_, results, performAll_map_feed _ s, htrace, hlength, hcomplete,
    fun hoffset => hinvalid (modifyFrame_start hoffset _ _)⟩

end Sys2Proof.Machine
end

section
/-!
CERTIFICATE. The statements of 43_ingest.md on DRAIN and SVC (R151, R154 to R158, R160, R164, R165; 20_memory.md R60):
with no step of another agent inside, as FEED of the bytes from RC to the snapshot, and with steps inside, index by
index.
-/

namespace Sys2Proof.Machine

/-! ## The reconstructor by itself -/

/-- `s` with the reconstructor, the latch, STATUS and the outputs of `r`. -/
def State.withRecon (s r : State) : State :=
  { s with rb := r.rb, ofs := r.ofs, res := r.res, cause := r.cause, status := r.status, last := r.last, rdy := r.rdy,
           trace := r.trace }

theorem feedIdle_withRecon (b : Byte) (s r : State) : feedIdle b (s.withRecon r) = s.withRecon (feedIdle b r) := by
  unfold feedIdle
  rw [apply_ite s.withRecon]
  rfl

theorem feedConstant_withRecon (expected : Byte) (bad : BitVec 5) (b : Byte) (s r : State) :
    feedConstant expected bad b (s.withRecon r) = s.withRecon (feedConstant expected bad b r) := by
  unfold feedConstant
  rw [apply_ite s.withRecon, apply_ite s.withRecon]
  rfl

theorem feedEnd_withRecon (b : Byte) (s r : State) : feedEnd b (s.withRecon r) = s.withRecon (feedEnd b r) := by
  unfold feedEnd
  dsimp only
  rw [apply_ite s.withRecon, apply_ite s.withRecon]
  rfl

/-- FEED reads and writes that part of the state and no other. -/
theorem feedByte_withRecon (b : Byte) (s r : State) : feedByte b (s.withRecon r) = s.withRecon (feedByte b r) := by
  unfold feedByte
  rw [feedIdle_withRecon, feedConstant_withRecon, feedConstant_withRecon, feedEnd_withRecon]
  simp only [apply_ite s.withRecon]
  rfl

theorem feedAll_withRecon (bs : List Byte) (s r : State) :
    feedAll bs (s.withRecon r) = s.withRecon (feedAll bs r) := by
  induction bs generalizing r with
  | nil => rfl
  | cons b bs ih =>
    change feedAll bs (feedByte b (s.withRecon r)) = s.withRecon (feedAll bs (feedByte b r))
    rw [feedByte_withRecon, ih]

theorem feedAll_eq_withRecon (bs : List Byte) (s : State) : feedAll bs s = s.withRecon (feedAll bs s) :=
  feedAll_withRecon bs s s

theorem withRecon_self (s : State) : s.withRecon s = s := rfl

/-- FEED leaves the buffer side and the Coordinator's registers. -/
theorem feedAll_frame (bs : List Byte) (s : State) :
    (feedAll bs s).buf = s.buf ∧ (feedAll bs s).rem = s.rem ∧ (feedAll bs s).rc = s.rc ∧
      (feedAll bs s).pend = s.pend ∧ SameRequest s (feedAll bs s) := by
  rw [feedAll_eq_withRecon]
  exact ⟨rfl, rfl, rfl, rfl, rfl, rfl, rfl⟩

theorem feedAll_cons (b : Byte) (bs : List Byte) (s : State) : feedAll (b :: bs) s = feedAll bs (feedByte b s) := rfl

theorem feedAll_append (bs cs : List Byte) (s : State) : feedAll (bs ++ cs) s = feedAll cs (feedAll bs s) :=
  List.foldl_append

/-- FEED of bytes read from BUF: RT counts them. -/
def feedCounted (bs : List Byte) (s : State) : State := { feedAll bs s with rt := s.rt + bs.length }

theorem feedCounted_eq (bs : List Byte) (s : State) :
    feedCounted bs s = { s with rt := s.rt + bs.length }.withRecon (feedAll bs s) := by
  unfold feedCounted
  rw [feedAll_eq_withRecon]
  rfl

theorem feedCounted_nil (s : State) : feedCounted [] s = s := rfl

theorem feedCounted_cons (b : Byte) (bs : List Byte) (s : State) :
    feedCounted (b :: bs) s = feedCounted bs (feedByte b (countRead s)) := by
  have hread : feedByte b (countRead s) = (countRead s).withRecon (feedByte b s) :=
    feedByte_withRecon b (countRead s) s
  rw [feedCounted_eq, feedCounted_eq, hread, feedAll_withRecon, feedAll_cons, List.length_cons]
  have hcount : s.rt + (bs.length + 1) = s.rt + 1 + bs.length := by omega
  rw [hcount]
  rfl

/-! ## A drain with no step inside -/

theorem interleave_of_no_slots {s : State} (h : s.between = []) : interleave s = .next s :=
  interleave_eq_next.2 (.inl ⟨h, rfl⟩)

theorem drainByte_of_no_slots {i : Nat} {s : State} (h : s.between = []) (hi : i < s.cfg.capacity) :
    drainByte i s = .next (feedByte (s.bufAt i) (countRead s)) :=
  drainByte_eq_next.2 ⟨s, interleave_of_no_slots h, hi, rfl⟩

theorem forEach_drainByte_of_no_slots {is : List Nat} {s : State} (h : s.between = [])
    (his : ∀ i ∈ is, i < s.cfg.capacity) :
    forEach drainByte is s = .next (feedCounted (is.map s.bufAt) s) := by
  induction is generalizing s with
  | nil => rfl
  | cons i is ih =>
    rw [forEach_cons, drainByte_of_no_slots h (his i List.mem_cons_self), andThen_next, List.map_cons,
      feedCounted_cons]
    have hbuf : (feedByte (s.bufAt i) (countRead s)).bufAt = s.bufAt := by
      funext k
      unfold State.bufAt
      rw [feedByte_buf, countRead_buf]
    rw [ih (by simpa using h) (by simpa using fun j hj => his j (List.mem_cons_of_mem _ hj)), hbuf]

/-- With the snapshot before RC, two runs (43_ingest.md R155). -/
theorem drainIndices_of_lt {n rc w : Nat} (h : w < rc) :
    drainIndices n rc w = List.range' rc (n - rc) ++ List.range' 0 w := by
  rw [drainIndices, if_neg (Nat.ne_of_lt h), if_neg (Nat.not_lt_of_gt h)]

/-- With the snapshot after RC, one run (43_ingest.md R155). -/
theorem drainIndices_of_gt {n rc w : Nat} (h : rc < w) : drainIndices n rc w = List.range' rc (w - rc) := by
  rw [drainIndices, if_neg (Nat.ne_of_gt h), if_pos h]

theorem drainIndices_self (n rc : Nat) : drainIndices n rc rc = [] := if_pos rfl

/-- The bytes from RC to the write cursor, as they stand in BUF. -/
def State.unreadBytes (s : State) : List Byte := (drainIndices s.cfg.capacity s.rc s.wp).map s.bufAt

/-- The drain of R154 in one piece. -/
theorem drainBuffer_of_no_slots {s : State} (hmode : s.cfg.mode = .drain) (hcfg : s.cfg.wf) (h : s.between = []) :
    drainBuffer s = .next (setReadCursor s.wp (feedCounted s.unreadBytes s)) := by
  refine drainBuffer_eq_next.2 (.inr ⟨hmode, drainTo_eq_next.2 ?_⟩)
  by_cases hnew : s.wp = s.rc
  · have hnone : s.unreadBytes = [] := by
      unfold State.unreadBytes
      rw [hnew, drainIndices_self, List.map_nil]
    refine .inl ⟨hnew, ?_⟩
    rw [hnone, feedCounted_nil, hnew]
    rfl
  · have hreads := forEach_drainByte_of_no_slots h (fun i => drainIndices_lt (n := s.cfg.capacity) (rc := s.rc)
      (Nat.le_of_lt (wp_lt hcfg)))
    refine .inr ⟨hnew, _, _, hreads, interleave_of_no_slots ?_, rfl⟩
    rw [feedCounted_eq]
    exact h

theorem drainBuffer_keeps_no_slots {s t : State} (hcfg : s.cfg.wf) (h : s.between = [])
    (ht : drainBuffer s = .next t) : t.between = [] := by
  cases hmode : s.cfg.mode
  · obtain ⟨-, rfl⟩ | ⟨hdrain, -⟩ := drainBuffer_eq_next.1 ht
    · exact h
    · rw [hmode] at hdrain; cases hdrain
  · rw [drainBuffer_of_no_slots hmode hcfg h, feedCounted_eq] at ht
    cases ht
    exact h

/-- The two runs as lists of bytes. -/
theorem map_drainIndices (n rc w : Nat) (f : Nat → Byte) :
    (drainIndices n rc w).map f =
      if w > rc then (List.range (w - rc)).map fun k => f (rc + k)
      else if w < rc then ((List.range (n - rc)).map fun k => f (rc + k)) ++ (List.range w).map fun k => f k
      else [] := by
  have hrun (len : Nat) : (List.range' rc len).map f = (List.range len).map fun k => f (rc + k) := by
    rw [List.range'_eq_map_range, List.map_map]
    rfl
  obtain hlt | rfl | hgt := Nat.lt_trichotomy w rc
  · rw [drainIndices_of_lt hlt, if_neg (Nat.not_lt_of_gt hlt), if_pos hlt, List.map_append, hrun,
      ← List.range_eq_range']
  · rw [drainIndices_self, if_neg (Nat.lt_irrefl _), if_neg (Nat.lt_irrefl _), List.map_nil]
  · rw [drainIndices_of_gt hgt, if_pos hgt, hrun]

/-- Settles O26: the indices read are the two runs. -/
theorem drainFeedsTheUnreadBytesInOrder : Obligations.DrainFeedsTheUnreadBytesInOrder := by
  intro s hmode hbetween hcfg _ _ n w bytes
  have hbytes : bytes = s.unreadBytes := (map_drainIndices n s.rc w s.bufAt).symm
  rw [hbytes]
  exact ⟨feedAll s.unreadBytes s, performAll_map_feed _ s, drainBuffer_of_no_slots hmode hcfg hbetween⟩

/-- Settles O25: the first test of a drain is whether the cursors meet. -/
theorem drainWithNothingNewChangesNothing : Obligations.DrainWithNothingNewChangesNothing := by
  intro s h
  refine drainBuffer_eq_next.2 ?_
  cases hmode : s.cfg.mode
  · exact .inl ⟨rfl, rfl⟩
  · exact .inr ⟨rfl, drainTo_eq_next.2 (.inl ⟨h, rfl⟩)⟩

/-- Settles O23: in `MODE = PUSH` the meaning of RXB is FEED of its byte. -/
theorem rxbInPushModeFeeds : Obligations.RxbInPushModeFeeds := by
  intro s b hmode
  have hrxb : exec (.rxb b) s = .next (feedByte b s) := receiveByte_eq_next.2 (.inl ⟨hmode, rfl⟩)
  have hdrain : exec .drain s = .next s := drainBuffer_eq_next.2 (.inl ⟨hmode, rfl⟩)
  exact ⟨feedByte b s, hrxb, rfl, by simp, by simp, by simp, by simp, by simp, by simp, hdrain⟩

/-! ## SVC with no step inside -/

theorem lineIdleReset_eq (s : State) :
    lineIdleReset s =
      { s with ofs := 0, status := if s.ofs.val ≠ 0 then s.status ||| 0x20#7 else s.status } := by
  have hzero : s.ofs.val ≠ 0 ↔ s.ofs ≠ 0 := Fin.val_ne_zero_iff
  unfold lineIdleReset
  by_cases h0 : s.ofs ≠ 0
  · rw [if_pos h0, if_pos (hzero.2 h0)]
    rfl
  · rw [if_neg h0, if_neg (mt hzero.1 h0)]
    rfl

theorem service_of_no_slots {s t : State} (hcfg : s.cfg.wf) (h : s.between = [])
    (ht : drainBuffer (clearPending s) = .next t) :
    service s = .next (if s.pend.idle then lineIdleReset t else t) :=
  service_eq_next.2 ⟨clearPending s, t, t, interleave_of_no_slots h, ht,
    interleave_of_no_slots (drainBuffer_keeps_no_slots (s := clearPending s) hcfg h ht), rfl⟩

theorem execSvc_of_pending {s : State} (h : pendAny s.pend = true) : execSvc s = service s := if_pos h

theorem pendAny_iff {p : Pending} : pendAny p = true ↔ p.half = true ∨ p.full = true ∨ p.idle = true := by
  simp only [pendAny, Bool.or_eq_true, or_assoc]

/-- Settles O28: with no slots the three sub-steps follow one another. -/
theorem svcDrainsThenResetsOnLineIdle : Obligations.SvcDrainsThenResetsOnLineIdle := by
  intro s hbetween hcfg hpend
  obtain ⟨u, hu⟩ := drainBuffer_completes (s := clearPending s) hcfg
  have hsvc : exec .svc s = .next (if s.pend.idle then lineIdleReset u else u) :=
    (execSvc_of_pending (pendAny_iff.2 hpend)).trans (service_of_no_slots hcfg hbetween hu)
  rw [lineIdleReset_eq] at hsvc
  exact ⟨u, hu, hsvc⟩

/-- Settles O30: a service reads no flag of PEND but IDLE. -/
theorem milestonesHaveTheSameService : Obligations.MilestonesHaveTheSameService := by
  intro s hbetween hcfg
  obtain ⟨t, ht⟩ := drainBuffer_completes (s := clearPending s) hcfg
  have hservice (half full : Bool) (hany : pendAny { half := half, full := full, idle := false } = true) :
      exec .svc { s with pend := { half := half, full := full, idle := false } } = .next t :=
    (execSvc_of_pending hany).trans
      (service_of_no_slots (s := { s with pend := { half := half, full := full, idle := false } }) hcfg hbetween ht)
  exact ⟨t, hservice true false rfl, hservice false true rfl, hservice true true rfl, ht⟩

/-- Settles O31: SVC's first test fails. -/
theorem svcWithNothingPendingPasses : Obligations.SvcWithNothingPendingPasses :=
  fun _ h => execSvc_eq_next.2 (.inr ⟨h ▸ rfl, rfl⟩)

/-! ## Steps of other agents inside (20_memory.md R60) -/

/-- A point between two sub-steps has the meanings of the operations of its slot. -/
theorem interleave_eq_performAll (s : State) :
    interleave s = performAll (s.operationsAt 0) { s with between := s.between.drop 1 } := by
  unfold interleave State.operationsAt
  cases hb : s.between with
  | nil =>
    change Host.Outcome.next s = .next { s with between := [] }
    rw [← hb]
  | cons slot rest => exact forEach_runIntruder slot (setBetween rest s)

theorem interleave_between {s t : State} (h : interleave s = .next t) : t.between = s.between.drop 1 := by
  obtain ⟨hb, rfl⟩ | ⟨slot, rest, hb, ht⟩ := interleave_eq_next.1 h
  · rw [hb, List.drop_nil]
  · rw [hb]
    exact forEach_keeps (f := runIntruder) (P := fun u => u.between = rest)
      (fun e _ u v hu hv => (runIntruder_frame hv).2.2.2.2.trans hu) (s := setBetween rest s) rfl ht

theorem drainByte_between {i : Nat} {s t : State} (h : drainByte i s = .next t) : t.between = s.between.drop 1 := by
  obtain ⟨u, hu, -, rfl⟩ := drainByte_eq_next.1 h
  rw [feedByte_between, countRead_between, interleave_between hu]

theorem drainKeeps_schedule (s : State) : DrainKeeps (fun _ => True) fun u => u.schedule = s.schedule where
  agent _ h ht := (runIntruder_frame ht).2.2.2.1.trans h
  slots _ h := h
  read b h := by simpa using h
  cursor _ h := h

/-- Settles O29: the three sub-steps of a service, each point written as the operations of its slot. -/
theorem svcCompletesUnderInterleaving : Obligations.SvcCompletesUnderInterleaving := by
  intro s hinv hpend
  obtain ⟨t, ht⟩ := execSvc_completes (inv_iff.1 hinv).1.legal
  have hschedule : t.schedule = s.schedule :=
    (drainKeeps_schedule s).execSvc (fun h => h) (fun h => by simpa using h) (intrudersAre_any s) rfl ht
  obtain ⟨u, v, w, hu, hv, hw, hend⟩ := service_eq_next.1 ((execSvc_of_pending hpend).symm.trans ht)
  rw [interleave_eq_performAll] at hu hw
  refine ⟨t, ht, fun hidle => ?_, execSvc_keeps_cfg ht, hschedule, u, v, w, hu, hv, hw, ?_⟩
  · rw [hend, if_pos hidle, lineIdleReset_ofs]
  · rw [hend, lineIdleReset_eq]

/-- A state before others, by number. -/
def stateThen (s : State) (later : Nat → State) : Nat → State
  | 0 => s
  | k + 1 => later k

/-- The states between the steps of a list that completes. -/
theorem forEach_states {α : Type} {f : α → State → Out} {as : List α} {s t : State}
    (h : forEach f as s = .next t) :
    ∃ states : Nat → State, states 0 = s ∧ states as.length = t ∧
      ∀ (j : Nat) (hj : j < as.length), f as[j] (states j) = .next (states (j + 1)) := by
  induction as generalizing s with
  | nil => cases h; exact ⟨fun _ => t, rfl, rfl, nofun⟩
  | cons a as ih =>
    obtain ⟨u, hu, ht⟩ := andThen_eq_next.1 h
    obtain ⟨later, hfirst, hlast, hsteps⟩ := ih ht
    refine ⟨stateThen s later, rfl, hlast, fun j hj => ?_⟩
    cases j with
    | zero =>
      change f a s = .next (later 0)
      rw [hfirst]
      exact hu
    | succ j => exact hsteps j (Nat.lt_of_succ_lt_succ hj)

/-- The `j`-th index a drain reads (43_ingest.md R155, R165). -/
theorem drainIndices_getElem {n rc w j : Nat} (hrc : rc < n) (hw : w < n) (hj : j < (drainIndices n rc w).length) :
    (drainIndices n rc w)[j] = (rc + j) % n := by
  obtain hlt | rfl | hgt := Nat.lt_trichotomy w rc
  · simp only [drainIndices_of_lt hlt, List.length_append, List.length_range'] at hj ⊢
    by_cases hfirst : j < n - rc
    · rw [List.getElem_append_left (by simpa using hfirst), List.getElem_range', Nat.mod_eq_of_lt (by omega)]
      omega
    · rw [List.getElem_append_right (by simpa using hfirst), List.getElem_range', List.length_range',
        Nat.mod_eq_sub_mod (by omega), Nat.mod_eq_of_lt (by omega)]
      omega
  · simp [drainIndices_self] at hj
  · simp only [drainIndices_of_gt hgt, List.length_range'] at hj ⊢
    rw [List.getElem_range', Nat.mod_eq_of_lt (by omega)]
    omega

/-- The point before the `j`-th read, seen from the state in which the drain began. -/
theorem interleave_at {s u : State} {j : Nat} (h : u.between = s.between.drop j) :
    interleave u = performAll (s.operationsAt j) { u with between := s.between.drop (j + 1) } := by
  have hops : u.operationsAt 0 = s.operationsAt j := by
    unfold State.operationsAt
    rw [h, List.getD_eq_getElem?_getD, List.getD_eq_getElem?_getD, List.getElem?_drop, Nat.add_zero]
  rw [interleave_eq_performAll, hops, h, List.drop_drop]

theorem states_between {is : List Nat} {s : State} {states : Nat → State} (hfirst : states 0 = s)
    (hsteps : ∀ (j : Nat) (hj : j < is.length), drainByte is[j] (states j) = .next (states (j + 1))) {j : Nat}
    (hj : j ≤ is.length) : (states j).between = s.between.drop j := by
  induction j with
  | zero => rw [hfirst, List.drop_zero]
  | succ j ih => rw [drainByte_between (hsteps j hj), ih (Nat.le_of_succ_le hj), List.drop_drop]

/-- Settles O27: the states before the reads are those between the steps of the drain. -/
theorem drainFeedsAllUnreadBytesUnderInterleaving : Obligations.DrainFeedsAllUnreadBytesUnderInterleaving := by
  intro s hinv hmode
  obtain ⟨hflow, hread⟩ := inv_iff.1 hinv
  have hwp : s.wp < s.cfg.capacity := wp_lt hflow.legal
  obtain ⟨t, ht⟩ := drainBuffer_completes hflow.legal
  have hschedule : t.schedule = s.schedule :=
    ((drainKeeps_schedule s).drainBuffer (intrudersAre_any s) rfl ht).1
  obtain ⟨hpush, -⟩ | ⟨-, hto⟩ := drainBuffer_eq_next.1 ht
  · rw [hmode] at hpush; cases hpush
  obtain ⟨hrc, hrt⟩ := drainTo_readSide hread.lt hwp hto
  refine ⟨t, ht, hrc, hrt, Nat.mod_lt _ (Nat.zero_lt_of_lt hwp), drainBuffer_keeps_cfg ht, hschedule,
    fun hsame => ?_, fun hnew => ?_⟩
  · obtain ⟨-, heq⟩ | ⟨hne, -⟩ := drainTo_eq_next.1 hto
    · exact heq
    · exact absurd hsame hne
  · obtain ⟨hsame, -⟩ | ⟨-, u, last, hu, hlast, heq⟩ := drainTo_eq_next.1 hto
    · exact absurd hsame hnew
    have hlen : (drainIndices s.cfg.capacity s.rc s.wp).length = s.unread := drainIndices_length hread.lt hwp
    obtain ⟨before, hfirst, hend, hsteps⟩ := forEach_states hu
    have hslots {j : Nat} (hj : j ≤ s.unread) : (before j).between = s.between.drop j :=
      states_between hfirst hsteps (hlen.symm ▸ hj)
    rw [hlen] at hend
    refine ⟨before, last, hfirst, fun j hj => ?_, ?_, heq⟩
    · obtain ⟨v, hv, -, hfed⟩ := drainByte_eq_next.1 (hsteps j (hlen.symm ▸ hj))
      rw [drainIndices_getElem hread.lt hwp] at hfed
      exact ⟨v, (interleave_at (hslots (Nat.le_of_lt hj))).symm.trans hv, congrArg Host.Outcome.next hfed.symm⟩
    · rw [← interleave_at (hslots (Nat.le_refl _)), hend]
      exact hlast

end Sys2Proof.Machine
end

section
/-!
CERTIFICATE. The statements of 43_ingest.md and 20_memory.md on bytes received and then drained (R161, R163, R61,
R62): a store touches the write side only, so that it commutes with what a drain does; a byte stored stands in BUF
until `N` more have arrived.
-/

namespace Sys2Proof.Machine

/-! ## Bytes received in a row -/

/-- The state after each byte of a list is received in `MODE = DRAIN`, in order. -/
def storeAll (bs : List Byte) (s : State) : State := bs.foldl (fun t b => storeReceived b t) s

theorem storeAll_cons (b : Byte) (bs : List Byte) (s : State) :
    storeAll (b :: bs) s = storeAll bs (storeReceived b s) := rfl

theorem storeAll_append (bs cs : List Byte) (s : State) : storeAll (bs ++ cs) s = storeAll cs (storeAll bs s) :=
  List.foldl_append

theorem performAll_map_rxb_drain {s : State} (hmode : s.cfg.mode = .drain) (hcfg : s.cfg.wf) (bs : List Byte) :
    performAll (bs.map .rxb) s = .next (storeAll bs s) := by
  induction bs generalizing s with
  | nil => rfl
  | cons b bs ih =>
    have hrxb : exec (.rxb b) s = .next (storeReceived b s) := receiveByte_of_drain hmode hcfg b
    rw [List.map_cons, performAll, forEach_cons, hrxb]
    exact ih hmode hcfg

theorem performAll_map_rxb_push {s : State} (hmode : s.cfg.mode = .push) (bs : List Byte) :
    performAll (bs.map .rxb) s = .next (feedAll bs s) := by
  induction bs generalizing s with
  | nil => rfl
  | cons b bs ih =>
    have hrxb : exec (.rxb b) s = .next (feedByte b s) := receiveByte_eq_next.2 (.inl ⟨hmode, rfl⟩)
    rw [List.map_cons, performAll, forEach_cons, hrxb]
    exact ih (by rw [feedByte_cfg]; exact hmode)

/-- Receiving bytes commutes with whatever each store commutes with. -/
theorem storeAll_comm {g : State → State} (h : ∀ b s, storeReceived b (g s) = g (storeReceived b s)) (bs : List Byte)
    (s : State) : storeAll bs (g s) = g (storeAll bs s) := by
  induction bs generalizing s with
  | nil => rfl
  | cons b bs ih => rw [storeAll_cons, storeAll_cons, h, ih]

theorem storeAll_setBetween (bs : List Byte) (slots : List (List Intruder)) (s : State) :
    storeAll bs (setBetween slots s) = setBetween slots (storeAll bs s) := storeAll_comm (fun _ _ => rfl) bs s

theorem storeAll_setReadCursor (bs : List Byte) (w : Nat) (s : State) :
    storeAll bs (setReadCursor w s) = setReadCursor w (storeAll bs s) := storeAll_comm (fun _ _ => rfl) bs s

theorem storeAll_withRecon (bs : List Byte) (s r : State) :
    storeAll bs (s.withRecon r) = (storeAll bs s).withRecon r :=
  storeAll_comm (g := fun u => u.withRecon r) (fun _ _ => rfl) bs s

/-- The stores leave the reconstructor's part of the state. -/
theorem storeAll_eq_withRecon (bs : List Byte) (s : State) : storeAll bs s = (storeAll bs s).withRecon s :=
  storeAll_withRecon bs s s

theorem storeAll_feedCounted (bs cs : List Byte) (s : State) :
    storeAll bs (feedCounted cs s) = feedCounted cs (storeAll bs s) := by
  refine storeAll_comm (fun b u => ?_) bs s
  have hrecon : feedAll cs (storeReceived b u) = (storeReceived b u).withRecon (feedAll cs u) :=
    feedAll_withRecon cs (storeReceived b u) u
  rw [feedCounted_eq, feedCounted_eq, hrecon]
  rfl

theorem storeAll_countRead_feedByte (bs : List Byte) (c : Byte) (s : State) :
    storeAll bs (feedByte c (countRead s)) = feedByte c (countRead (storeAll bs s)) := by
  simpa only [feedCounted_cons, feedCounted_nil] using storeAll_feedCounted bs [c] s

theorem storeAll_frame (bs : List Byte) (s : State) :
    (storeAll bs s).cfg = s.cfg ∧ (storeAll bs s).rc = s.rc ∧ (storeAll bs s).rt = s.rt ∧
      (storeAll bs s).between = s.between ∧ (storeAll bs s).wt = s.wt + bs.length := by
  induction bs generalizing s with
  | nil => exact ⟨rfl, rfl, rfl, rfl, rfl⟩
  | cons b bs ih =>
    obtain ⟨hcfg, hrc, hrt, hbetween, hwt⟩ := ih (storeReceived b s)
    refine ⟨hcfg, hrc, hrt, hbetween, hwt.trans ?_⟩
    change s.wt + 1 + bs.length = s.wt + (bs.length + 1)
    omega

theorem storeAll_request (bs : List Byte) (s : State) : SameRequest s (storeAll bs s) := by
  induction bs generalizing s with
  | nil => exact ⟨rfl, rfl, rfl⟩
  | cons b bs ih => exact ih (storeReceived b s)

theorem storeAll_flowInv {s : State} (bs : List Byte) (h : s.FlowInv) : (storeAll bs s).FlowInv := by
  induction bs generalizing s with
  | nil => exact h
  | cons b bs ih => exact ih (storeReceived_flowInv b h)

/-- The write cursor after the bytes (10_state.md R28, R36). -/
theorem storeAll_wp {s : State} (bs : List Byte) (h : s.FlowInv) :
    (storeAll bs s).wp = (s.wt + bs.length) % s.cfg.capacity := by
  obtain ⟨hcfg, -, -, -, hwt⟩ := storeAll_frame bs s
  rw [(storeAll_flowInv bs h).write.2.2, hwt, hcfg]

/-! ## Where the bytes stand -/

theorem add_mod_ne {n a d : Nat} (hpos : 0 < d) (hlt : d < n) : (a + d) % n ≠ a % n := by
  intro h
  have hzero : d ≡ 0 [MOD n] := Nat.ModEq.add_left_cancel' a h
  rw [Nat.ModEq, Nat.zero_mod, Nat.mod_eq_of_lt hlt] at hzero
  omega

theorem storeReceived_bufAt {s : State} (h : s.FlowInv) (b : Byte) (i : Nat) :
    (storeReceived b s).bufAt i = if i = s.wt % s.cfg.capacity then b else s.bufAt i := by
  rw [← h.write.2.2]
  exact memGet_memSet s.wp i b h.buffer.1

/-- An index none of the bytes goes to keeps its byte. -/
theorem storeAll_bufAt_of_ne {s : State} (h : s.FlowInv) {bs : List Byte} {i : Nat}
    (hi : ∀ m, m < bs.length → i ≠ (s.wt + m) % s.cfg.capacity) : (storeAll bs s).bufAt i = s.bufAt i := by
  induction bs generalizing s with
  | nil => rfl
  | cons b bs ih =>
    have hfirst : i ≠ s.wt % s.cfg.capacity := hi 0 (Nat.zero_lt_succ _)
    rw [storeAll_cons, ih (storeReceived_flowInv b h) fun m hm => ?_, storeReceived_bufAt h, if_neg hfirst]
    have hlater := hi (m + 1) (Nat.succ_lt_succ hm)
    rwa [Nat.add_comm m 1, ← Nat.add_assoc] at hlater

/-- Of at most `N` bytes each stands where it was stored (43_ingest.md R163). -/
theorem storeAll_bufAt {s : State} (h : s.FlowInv) {bs : List Byte} (hlen : bs.length ≤ s.cfg.capacity) {m : Nat}
    (hm : m < bs.length) : (storeAll bs s).bufAt ((s.wt + m) % s.cfg.capacity) = bs[m] := by
  induction bs generalizing s m with
  | nil => cases hm
  | cons b bs ih =>
    rw [List.length_cons] at hlen hm
    rw [storeAll_cons]
    cases m with
    | zero =>
      rw [storeAll_bufAt_of_ne (storeReceived_flowInv b h) fun k hk => ?_, storeReceived_bufAt h, Nat.add_zero,
        if_pos rfl]
      · rfl
      · change (s.wt + 0) % s.cfg.capacity ≠ (s.wt + 1 + k) % s.cfg.capacity
        rw [Nat.add_assoc s.wt 1 k]
        exact (add_mod_ne (by omega) (by omega)).symm
    | succ m =>
      have hindex : s.wt + (m + 1) = (storeReceived b s).wt + m := by
        change s.wt + (m + 1) = s.wt + 1 + m
        omega
      rw [hindex]
      exact ih (storeReceived_flowInv b h) (by change bs.length ≤ s.cfg.capacity; omega) (by omega)

/-- Settles O34: after `N` bytes the write cursor stands where it stood, at RC. -/
theorem capacityManyUnreadBytesLookLikeNone : Obligations.CapacityManyUnreadBytesLookLikeNone := by
  intro s bytes hinv hmode hsame hlen
  have hflow := (inv_iff.1 hinv).1
  obtain ⟨-, hrc, -⟩ := storeAll_frame bytes s
  have hwp : (storeAll bytes s).wp = (storeAll bytes s).rc := by
    rw [storeAll_wp bytes hflow, hlen, Nat.add_mod_right, hrc, ← hsame]
    exact hflow.write.2.2.symm
  refine ⟨storeAll bytes s, performAll_map_rxb_drain hmode hflow.legal bytes,
    drainWithNothingNewChangesNothing _ hwp, ?_⟩
  rw [storeAll_eq_withRecon]
  exact ⟨rfl, rfl, rfl, rfl, rfl, rfl⟩

/-! ## Received and then drained (43_ingest.md R163) -/

/-- In state `t` the bytes `bs` have been received and drained since `s`, with no other agent's step inside the drains:
nothing is unread, and the reconstructor stands as after FEED of the bytes. -/
structure Absorbed (bs : List Byte) (s t : State) : Prop where
  recon   : t = t.withRecon (feedAll bs s)
  inv     : t.Inv
  cfg     : t.cfg = s.cfg
  slots   : t.between = []
  read    : t.wp = t.rc
  request : SameRequest s t

theorem absorbed_nil {s : State} (hinv : s.Inv) (hslots : s.between = []) (hread : s.wp = s.rc) : Absorbed [] s s :=
  ⟨rfl, hinv, rfl, hslots, hread, rfl, rfl, rfl⟩

theorem Absorbed.trans {bs cs : List Byte} {s t u : State} (h : Absorbed bs s t) (h' : Absorbed cs t u) :
    Absorbed (bs ++ cs) s u where
  recon := by
    have hfed : feedAll cs t = t.withRecon (feedAll (bs ++ cs) s) := by
      rw [feedAll_append, ← feedAll_withRecon, ← h.recon]
    have hu := h'.recon
    rw [hfed] at hu
    exact hu
  inv := h'.inv
  cfg := h'.cfg.trans h.cfg
  slots := h'.slots
  read := h'.read
  request := by
    obtain ⟨hco, hexpect, hcnt⟩ := h.request
    obtain ⟨hco', hexpect', hcnt'⟩ := h'.request
    exact ⟨hco'.trans hco, hexpect'.trans hexpect, hcnt'.trans hcnt⟩

/-- Fewer than `N` bytes received with nothing unread are exactly the unread bytes, in order. -/
theorem storeAll_unreadBytes {s : State} (hinv : s.Inv) (hread : s.wp = s.rc) {bs : List Byte}
    (hlen : bs.length < s.cfg.capacity) : (storeAll bs s).unreadBytes = bs := by
  have hflow := (inv_iff.1 hinv).1
  obtain ⟨hcfg, hrc, -⟩ := storeAll_frame bs s
  have hwp := storeAll_wp bs hflow
  have hstart : s.rc = s.wt % s.cfg.capacity := hread.symm.trans hflow.write.2.2
  have hpos : 0 < s.cfg.capacity := Nat.zero_lt_of_lt hlen
  have hrcN : s.rc < s.cfg.capacity := hstart ▸ Nat.mod_lt _ hpos
  have hwpN : (s.wt + bs.length) % s.cfg.capacity < s.cfg.capacity := Nat.mod_lt _ hpos
  have hcount : (drainIndices s.cfg.capacity s.rc ((s.wt + bs.length) % s.cfg.capacity)).length = bs.length := by
    rw [drainIndices_length hrcN hwpN, hstart, unread_cursor hpos (Nat.le_add_right _ _), Nat.add_sub_cancel_left,
      Nat.mod_eq_of_lt hlen]
  unfold State.unreadBytes
  rw [hcfg, hrc, hwp]
  refine List.ext_getElem (by rw [List.length_map, hcount]) fun j hj hj' => ?_
  rw [List.getElem_map, drainIndices_getElem hrcN hwpN, hstart, Nat.mod_add_mod]
  exact storeAll_bufAt hflow (Nat.le_of_lt hlen) hj'

theorem performAll_append (is js : List Instr) (s : State) :
    performAll (is ++ js) s = andThen (performAll is s) (performAll js) := forEach_append exec is js s

theorem performAll_inv {is : List Instr} {s t : State} (h : s.Inv) (ht : performAll is s = .next t) : t.Inv :=
  forEach_keeps (P := State.Inv) (fun _ _ _ _ hu hv => exec_inv hu hv) h ht

/-- A burst of fewer than `N` bytes and a drain. -/
theorem burst_absorbed {s : State} (hinv : s.Inv) (hmode : s.cfg.mode = .drain) (hslots : s.between = [])
    (hread : s.wp = s.rc) {bs : List Byte} (hlen : bs.length < s.cfg.capacity) :
    ∃ t, performAll (bs.map .rxb ++ [.drain]) s = .next t ∧ Absorbed bs s t := by
  have hlegal := (inv_iff.1 hinv).1.legal
  obtain ⟨hcfg, -, -, hbetween, -⟩ := storeAll_frame bs s
  obtain ⟨hco, hexpect, hcnt⟩ := storeAll_request bs s
  have hdrain := drainBuffer_of_no_slots (s := storeAll bs s) (hcfg.symm ▸ hmode) (hcfg.symm ▸ hlegal)
    (hbetween.trans hslots)
  rw [storeAll_unreadBytes hinv hread hlen] at hdrain
  have hrun : performAll (bs.map .rxb ++ [.drain]) s =
      .next (setReadCursor (storeAll bs s).wp (feedCounted bs (storeAll bs s))) := by
    rw [performAll_append, performAll_map_rxb_drain hmode hlegal, andThen_next]
    change andThen (drainBuffer (storeAll bs s)) _ = _
    rw [hdrain]
    rfl
  have hinv' := performAll_inv hinv hrun
  refine ⟨_, hrun, ?_⟩
  have hfed : feedAll bs (storeAll bs s) = (storeAll bs s).withRecon (feedAll bs s) := by
    rw [← feedAll_withRecon, ← storeAll_eq_withRecon]
  rw [feedCounted_eq, hfed] at hinv' ⊢
  exact ⟨rfl, hinv', hcfg, hbetween.trans hslots, rfl, hco, hexpect, hcnt⟩

/-- Bursts of fewer than `N` bytes, each followed by a drain. -/
theorem bursts_absorbed {s : State} (hinv : s.Inv) (hmode : s.cfg.mode = .drain) (hslots : s.between = [])
    (hread : s.wp = s.rc) {bursts : List (List Byte)} (hlen : ∀ burst ∈ bursts, burst.length < s.cfg.capacity) :
    ∃ t, performAll (bursts.flatMap fun burst => burst.map Instr.rxb ++ [.drain]) s = .next t ∧
      Absorbed bursts.flatten s t := by
  induction bursts generalizing s with
  | nil => exact ⟨s, rfl, absorbed_nil hinv hslots hread⟩
  | cons burst bursts ih =>
    obtain ⟨u, hu, hburst⟩ := burst_absorbed hinv hmode hslots hread (hlen burst List.mem_cons_self)
    obtain ⟨t, ht, hrest⟩ := ih hburst.inv (hburst.cfg ▸ hmode) hburst.slots hburst.read
      (hburst.cfg ▸ fun b hb => hlen b (List.mem_cons_of_mem _ hb))
    refine ⟨t, ?_, hburst.trans hrest⟩
    rw [List.flatMap_cons, performAll_append, hu, andThen_next, ht]

/-- Settles O33: both runs feed the same bytes to the same reconstructor. -/
theorem bufferedBytesAreFedAsInPushMode : Obligations.BufferedBytesAreFedAsInPushMode := by
  intro s bytes hinv hmode hslots hread hlen
  obtain ⟨t, ht, habsorbed⟩ := burst_absorbed hinv hmode hslots hread hlen
  have hpush := performAll_map_rxb_push (s := { s with cfg := { s.cfg with mode := .push } }) rfl bytes
  have hsame : feedAll bytes { s with cfg := { s.cfg with mode := .push } } =
      ({ s with cfg := { s.cfg with mode := .push } } : State).withRecon (feedAll bytes s) :=
    feedAll_withRecon bytes { s with cfg := { s.cfg with mode := .push } } s
  have hrecon := habsorbed.recon
  rw [hsame] at hpush
  exact ⟨t, _, ht, hpush, (congrArg State.ofs hrecon :), (congrArg State.rb hrecon :), (congrArg State.res hrecon :),
    (congrArg State.cause hrecon :), (congrArg State.status hrecon :), (congrArg State.last hrecon :),
    (congrArg State.rdy hrecon :), (congrArg State.trace hrecon :), habsorbed.read⟩

/-! ## Bytes that arrive inside a drain (43_ingest.md R161) -/

/-- The slots in which bytes arrive, one list of them per point. -/
def arrivals (slots : List (List Byte)) : List (List Intruder) := slots.map fun slot => slot.map Intruder.rxb

/-- How many bytes arrive at the first `k` points. -/
def arrivedBy (slots : List (List Byte)) (k : Nat) : Nat := ((slots.take k).map List.length).sum

theorem arrivedBy_cons (slot : List Byte) (slots : List (List Byte)) (k : Nat) :
    arrivedBy (slot :: slots) (k + 1) = slot.length + arrivedBy slots k := by
  unfold arrivedBy
  rw [List.take_succ_cons, List.map_cons, List.sum_cons]

/-- No byte that arrives before the `j`-th read, or at the point before it, goes to the index it reads. -/
def Untouched (s : State) (is : List Nat) (slots : List (List Byte)) : Prop :=
  ∀ (j : Nat) (hj : j < is.length) (m : Nat), m < arrivedBy slots (j + 1) →
    is[j] ≠ (s.wt + m) % s.cfg.capacity

theorem interleave_arrivals {s : State} (hmode : s.cfg.mode = .drain) (hcfg : s.cfg.wf) {slot : List Byte}
    {rest : List (List Intruder)} (h : s.between = slot.map Intruder.rxb :: rest) :
    interleave s = .next (setBetween rest (storeAll slot s)) := by
  have hops : (slot.map Intruder.rxb).map Intruder.operation = slot.map Instr.rxb := by
    rw [List.map_map]
    rfl
  have hslot := performAll_map_rxb_drain (s := setBetween rest s) hmode hcfg slot
  rw [storeAll_setBetween] at hslot
  refine interleave_eq_next.2 (.inr ⟨_, rest, h, ?_⟩)
  rw [forEach_runIntruder, hops, hslot]

theorem feedCounted_setBetween (bs : List Byte) (slots : List (List Intruder)) (s : State) :
    feedCounted bs (setBetween slots s) = setBetween slots (feedCounted bs s) := by
  have hfed : feedAll bs (setBetween slots s) = (setBetween slots s).withRecon (feedAll bs s) :=
    feedAll_withRecon bs (setBetween slots s) s
  rw [feedCounted_eq, feedCounted_eq, hfed]
  rfl

theorem feedByte_countRead_setBetween (b : Byte) (slots : List (List Intruder)) (s : State) :
    feedByte b (countRead (setBetween slots s)) = setBetween slots (feedByte b (countRead s)) := by
  simpa only [feedCounted_cons, feedCounted_nil] using feedCounted_setBetween [b] slots s

/-- The state after one read of `c` with the bytes that arrived at the point before it, `later` still to come. -/
def readThenArrived (slot : List Byte) (c : Byte) (later : List (List Intruder)) (s : State) : State :=
  setBetween later (storeAll slot (feedByte c (countRead s)))

theorem readThenArrived_cfg (slot : List Byte) (c : Byte) (later : List (List Intruder)) (s : State) :
    (readThenArrived slot c later s).cfg = s.cfg :=
  (storeAll_frame slot _).1.trans (feedByte_cfg _ _)

theorem readThenArrived_wt (slot : List Byte) (c : Byte) (later : List (List Intruder)) (s : State) :
    (readThenArrived slot c later s).wt = s.wt + slot.length := by
  obtain ⟨-, -, -, -, hwt⟩ := storeAll_frame slot (feedByte c (countRead s))
  rw [readThenArrived, setBetween_wt, hwt, feedByte_wt, countRead_wt]

theorem readThenArrived_bufAt (slot : List Byte) (c : Byte) (later : List (List Intruder)) (s : State) :
    (readThenArrived slot c later s).bufAt = (storeAll slot s).bufAt := by
  funext k
  unfold State.bufAt
  rw [readThenArrived, setBetween_buf, storeAll_countRead_feedByte, feedByte_buf, countRead_buf]

theorem readThenArrived_flowInv {slot : List Byte} {c : Byte} {later : List (List Intruder)} {s : State}
    (h : s.FlowInv) : (readThenArrived slot c later s).FlowInv := by
  have hcounted : (countRead s).FlowInv := { h with }
  exact { storeAll_flowInv slot (feedByte_flowInv c hcounted) with }

/-- One read and the point before it, where no byte that arrives goes to the index read. -/
theorem drainByte_arrivals {i : Nat} {slot : List Byte} {later : List (List Intruder)} {s : State} (hflow : s.FlowInv)
    (hmode : s.cfg.mode = .drain) (hi : i < s.cfg.capacity) (hslots : s.between = slot.map Intruder.rxb :: later)
    (hkept : (storeAll slot s).bufAt i = s.bufAt i) :
    drainByte i s = .next (readThenArrived slot (s.bufAt i) later s) := by
  refine drainByte_eq_next.2 ⟨_, interleave_arrivals hmode hflow.legal hslots, ?_, ?_⟩
  · rw [setBetween_cfg, (storeAll_frame slot s).1]
    exact hi
  · rw [readThenArrived, storeAll_countRead_feedByte, ← hkept]
    exact (feedByte_countRead_setBetween ((storeAll slot s).bufAt i) later (storeAll slot s)).symm

/-- The bytes that arrive at a point leave the indices still to be read. -/
theorem Untouched.head {s : State} {is : List Nat} {slot : List Byte} {slots : List (List Byte)} (hflow : s.FlowInv)
    (h : Untouched s is (slot :: slots)) {k : Nat} (hk : k ∈ is) : (storeAll slot s).bufAt k = s.bufAt k := by
  obtain ⟨j, hj, rfl⟩ := List.getElem_of_mem hk
  refine storeAll_bufAt_of_ne hflow fun m hm => h j hj m ?_
  rw [arrivedBy_cons]
  exact Nat.lt_add_right _ hm

theorem Untouched.tail {s : State} {i : Nat} {is : List Nat} {slot : List Byte} {slots : List (List Byte)}
    (h : Untouched s (i :: is) (slot :: slots)) (c : Byte) (later : List (List Intruder)) :
    Untouched (readThenArrived slot c later s) is slots := by
  intro j hj m hm
  rw [readThenArrived_wt, readThenArrived_cfg, Nat.add_assoc]
  refine h (j + 1) (Nat.succ_lt_succ hj) (slot.length + m) ?_
  rw [arrivedBy_cons]
  exact Nat.add_lt_add_left hm _

/-- The reads of a drain into which bytes arrive, none of them over an index still to be read: the arrivals can as well
come after the reads. -/
theorem forEach_drainByte_arrivals {is : List Nat} {slots : List (List Byte)} {rest : List (List Intruder)} {s : State}
    (hflow : s.FlowInv) (hmode : s.cfg.mode = .drain) (his : ∀ i ∈ is, i < s.cfg.capacity)
    (hlen : slots.length = is.length) (hslots : s.between = arrivals slots ++ rest) (hfree : Untouched s is slots) :
    forEach drainByte is s =
      .next (setBetween rest (storeAll slots.flatten (feedCounted (is.map s.bufAt) s))) := by
  induction is generalizing s slots with
  | nil =>
    obtain rfl := List.length_eq_zero_iff.1 hlen
    change Host.Outcome.next s = .next { s with between := rest }
    rw [show rest = s.between from hslots.symm]
  | cons i is ih =>
    obtain ⟨slot, slots, rfl⟩ := List.exists_cons_of_length_eq_add_one hlen
    have hread : drainByte i s = .next (readThenArrived slot (s.bufAt i) (arrivals slots ++ rest) s) :=
      drainByte_arrivals hflow hmode (his i List.mem_cons_self) hslots (hfree.head hflow List.mem_cons_self)
    have hcfg := readThenArrived_cfg slot (s.bufAt i) (arrivals slots ++ rest) s
    have hbytes : is.map (readThenArrived slot (s.bufAt i) (arrivals slots ++ rest) s).bufAt = is.map s.bufAt := by
      rw [readThenArrived_bufAt]
      exact List.map_congr_left fun k hk => hfree.head hflow (List.mem_cons_of_mem _ hk)
    have hrest := ih (s := readThenArrived slot (s.bufAt i) (arrivals slots ++ rest) s)
      (readThenArrived_flowInv hflow) (hcfg.symm ▸ hmode)
      (hcfg.symm ▸ fun k hk => his k (List.mem_cons_of_mem _ hk)) (Nat.succ.inj hlen) rfl (hfree.tail _ _)
    rw [forEach_cons, hread, andThen_next, hrest, hbytes, readThenArrived, feedCounted_setBetween,
      storeAll_setBetween, ← storeAll_feedCounted, ← storeAll_append, List.map_cons, feedCounted_cons,
      List.flatten_cons]
    rfl

/-- Without overrun no arrival goes to an index still to be read (20_memory.md R61). -/
theorem untouched_of_noOverrun {s : State} (hinv : s.Inv) {slots : List (List Byte)}
    (h : ∀ j, j < s.unread → s.wt + arrivedBy slots (j + 1) ≤ s.rt + j + (s.cfg.capacity - 1)) :
    Untouched s (drainIndices s.cfg.capacity s.rc s.wp) slots := by
  obtain ⟨hflow, hread⟩ := inv_iff.1 hinv
  have hwp := wp_lt hflow.legal
  have hle := (unread_reaches_wp hinv).2
  intro j hj m hm
  have hlt : j < s.unread := hj.trans_eq (drainIndices_length hread.lt hwp)
  have hroom := h j hlt
  have hdistance : s.wt + m = s.rt + j + (s.wt + m - (s.rt + j)) := by omega
  rw [drainIndices_getElem hread.lt hwp, hread.cursor, Nat.mod_add_mod, hdistance]
  exact (add_mod_ne (by omega) (by omega)).symm

/-- Settles O32: each arrival commutes with the reads after it and with the write of RC. -/
theorem drainIsAtomicWithoutOverrun : Obligations.DrainIsAtomicWithoutOverrun := by
  intro s slots rest hinv hmode hnew hslots hlen hroom
  obtain ⟨hflow, hread⟩ := inv_iff.1 hinv
  obtain ⟨init, last, rfl⟩ : ∃ init last, slots = init ++ [last] := by
    obtain rfl | h := List.eq_nil_or_concat' slots
    · cases hlen
    · exact h
  have hinit : init.length = s.unread := by simpa using hlen
  have his : (drainIndices s.cfg.capacity s.rc s.wp).length = init.length :=
    (drainIndices_length hread.lt (wp_lt hflow.legal)).trans hinit.symm
  have hfree : Untouched s (drainIndices s.cfg.capacity s.rc s.wp) init := untouched_of_noOverrun hinv fun j hj => by
    have hroomj := hroom j (Nat.le_of_lt hj)
    rwa [List.take_append_of_le_length (by omega)] at hroomj
  have hatomic : exec .drain (setBetween [] s) =
      .next (setReadCursor s.wp (feedCounted s.unreadBytes (setBetween [] s))) :=
    drainBuffer_of_no_slots (s := setBetween [] s) hmode hflow.legal rfl
  have hreads := forEach_drainByte_arrivals (rest := last.map Intruder.rxb :: rest) hflow hmode
    (fun i => drainIndices_lt (Nat.le_of_lt (wp_lt hflow.legal))) his.symm (by rw [hslots]; simp [arrivals]) hfree
  have hfedcfg : (feedCounted s.unreadBytes s).cfg = s.cfg := by rw [feedCounted_eq]; rfl
  have hcfg := (storeAll_frame init.flatten (feedCounted s.unreadBytes s)).1.trans hfedcfg
  have hlast := interleave_arrivals (slot := last) (rest := rest)
    (s := setBetween (last.map Intruder.rxb :: rest) (storeAll init.flatten (feedCounted s.unreadBytes s)))
    (hcfg.symm ▸ hmode) (hcfg.symm ▸ hflow.legal) rfl
  have hdrain : exec .drain s = .next (setReadCursor s.wp (setBetween rest (storeAll last
      (setBetween (last.map Intruder.rxb :: rest) (storeAll init.flatten (feedCounted s.unreadBytes s)))))) :=
    drainBuffer_eq_next.2 (.inr ⟨hmode, drainTo_eq_next.2 (.inr ⟨hnew, _, _, hreads, hlast, rfl⟩)⟩)
  refine ⟨_, _, hatomic, performAll_map_rxb_drain ?_ ?_ _, hdrain.trans (congrArg Host.Outcome.next ?_)⟩
  · rw [feedCounted_setBetween]; exact hfedcfg.symm ▸ hmode
  · rw [feedCounted_setBetween]; exact hfedcfg.symm ▸ hflow.legal
  · rw [feedCounted_setBetween, storeAll_setReadCursor, storeAll_setBetween, storeAll_setBetween, ← storeAll_append,
      List.flatten_append, List.flatten_singleton]
    rfl

end Sys2Proof.Machine
end

section
/-!
CERTIFICATE. The statements of 44_coordinator.md on runs and on the wire words (R188 to R197), of 30_encoding.md on the
frames that arrive and leave (R73, R80, R83, R84), of 41_codec_tx.md R101, and of RST (70_reset_and_hazards.md R240).
-/

namespace Sys2Proof.Machine

/-! ## RST, TX and the words as they lie on the line -/

/-- Settles O2: the meaning of RST is this one update. -/
theorem rstGivesTheResetValues : Obligations.RstGivesTheResetValues := fun _ => rfl

/-- Settles O6. -/
theorem txEmitsTenBytesInOrder : Obligations.TxEmitsTenBytesInOrder := fun _ _ => rfl

/-- Settles O45: an outward frame is TX of its pattern. -/
theorem frameLeavesByteByByte : Obligations.FrameLeavesByteByByte :=
  fun cmd fb p1 p2 h l => txEmitsTenBytesInOrder (framePattern cmd fb p1 p2 h l)

theorem performAll_map_rxb (bs : List Byte) (s : State) : performAll (bs.map .rxb) s = forEach receiveByte bs s := by
  induction bs generalizing s with
  | nil => rfl
  | cons b bs ih => exact congrArg (andThen (receiveByte b s)) (funext ih)

/-- An arriving frame is RXB of each byte of its pattern (20_memory.md R51, R65). -/
theorem exec_arrival (cmd fb p1 p2 h l : Byte) (s : State) :
    exec (.frame .inward cmd fb p1 p2 h l) s =
      performAll ((frameBytes (framePattern cmd fb p1 p2 h l)).map .rxb) s :=
  (performAll_map_rxb _ s).symm

/-- Settles O44: it completes as every operation does. -/
theorem frameArrivesByteByByte : Obligations.FrameArrivesByteByByte := by
  intro cmd fb p1 p2 h l s hcfg
  obtain ⟨t, ht⟩ := noOperationStopsTheBlock (.frame .inward cmd fb p1 p2 h l) s hcfg
  exact ⟨t, ht, (exec_arrival cmd fb p1 p2 h l s).symm.trans ht⟩

theorem framePattern_wellFormed {cmd fb p1 p2 h l : Byte} (hchk : checksumOk VER LEN cmd fb p1 p2 h l = true) :
    frameWellFormed (framePattern cmd fb p1 p2 h l) = true :=
  frameWellFormed_iff.2 ⟨rfl, rfl, rfl, rfl, hchk⟩

/-- Settles O46: in `MODE = PUSH` the arrival of a frame is FEED of its bytes. -/
theorem everyWellFormedFrameIsAccepted : Obligations.EveryWellFormedFrameIsAccepted := by
  intro cmd fb p1 p2 h l s hmode hofs hsum
  have hver : VER.toNat = 0xFF := rfl
  have hlen : LEN.toNat = 0x06 := rfl
  have hchk : checksumOk VER LEN cmd fb p1 p2 h l = true := checksumOk_iff.2 (by omega)
  have harrive : exec (.frame .inward cmd fb p1 p2 h l) s =
      .next (feedAll (frameBytes (framePattern cmd fb p1 p2 h l)) s) :=
    (exec_arrival cmd fb p1 p2 h l s).trans (performAll_map_rxb_push hmode _)
  obtain ⟨htrace, hofs', hrdy, hlast⟩ := feedAll_frameBytes hofs (framePattern_wellFormed hchk)
  exact ⟨_, harrive, htrace, hofs', hrdy, hlast, feedAll_frame _ s⟩

/-! ## Command words (30_encoding.md R81, 44_coordinator.md R188 to R194) -/

/-- Settles O41: the meaning of each word is SEND of its code and parameters. -/
theorem playbackCommandsAreSent : Obligations.PlaybackCommandsAreSent := fun _ p1 p2 _ _ s =>
  ⟨sendCommand_answersSend _ p1 p2 s, sendCommand_answersSend _ p1 p2 s, sendCommand_answersSend _ p1 p2 s,
    sendCommand_answersSend _ p1 p2 s, sendCommand_answersSend _ p1 p2 s, sendCommand_answersSend _ p1 p2 s⟩

/-- Settles O42: the meaning of the word is REQ, and a pair of bytes is R74's number. -/
theorem folderCountIsRequested : Obligations.FolderCountIsRequested :=
  ⟨fun _ p1 folder _ _ timeout s => requestCommand_answersRequest _ p1 folder timeout s,
    fun f => bePair_toNat f.p1 f.p2⟩

theorem highByte_bePair (h l : Byte) : highByte (bePair h l) = h :=
  BitVec.eq_of_toNat_eq (by rw [highByte_toNat, bePair_toNat]; omega)

theorem lowByte_bePair (h l : Byte) : lowByte (bePair h l) = l :=
  BitVec.eq_of_toNat_eq (by rw [lowByte_toNat, bePair_toNat]; omega)

/-- A well-formed command word carries the bytes ENC makes of its code and parameters (30_encoding.md R80). -/
theorem encodePattern_of_commandWellFormed {code fb p1 p2 h l : Byte}
    (hw : commandWellFormed code fb p1 p2 h l = true) :
    frameBytes (encodeFrame code p1 p2) = encodePattern code fb p1 p2 h l := by
  obtain ⟨hfb, hchk⟩ : fb = 0x00#8 ∧ checksumOk VER LEN code fb p1 p2 h l = true := by
    simpa only [commandWellFormed, Bool.and_eq_true, beq_iff_eq] using hw
  subst hfb
  have hsum : bePair h l = csum VER LEN code 0x00#8 p1 p2 := beq_iff_eq.1 hchk
  have hhigh : highByte (csum VER LEN code 0x00#8 p1 p2) = h := hsum ▸ highByte_bePair h l
  have hlow : lowByte (csum VER LEN code 0x00#8 p1 p2) = l := hsum ▸ lowByte_bePair h l
  simp [frameBytes, encodeFrame, frameOfFields, framePattern, encodePattern, hhigh, hlow]

theorem sendCommand_of_idle {code p1 p2 : Byte} {s t : State} (hco : s.co = .idle)
    (h : sendCommand code p1 p2 s = .next t) :
    t.trace = s.trace ++ (frameBytes (encodeFrame code p1 p2)).map .tx ++ [.result .sent] := by
  obtain ⟨hwait, -⟩ | ⟨-, rfl⟩ := sendCommand_eq_next.1 h
  · rw [hco] at hwait; cases hwait
  · rfl

theorem requestCommand_of_idle {code p1 p2 : Byte} {timeout : Nat} {s t : State} (hco : s.co = .idle)
    (h : requestCommand code p1 p2 timeout s = .next t) :
    t = emitResult .issued (transmit (encodeFrame code p1 p2) (createPending code timeout s)) := by
  obtain ⟨hwait, -⟩ | ⟨-, rfl⟩ := requestCommand_eq_next.1 h
  · rw [hco] at hwait; cases hwait
  · rfl

/-- Settles O43: the frame ENC builds is the word's own pattern. -/
theorem wellFormedCommandWordIsWhatGoesOut : Obligations.WellFormedCommandWordIsWhatGoesOut := by
  intro i s t hwell hco hi h
  have sent {code fb p1 p2 ckH ckL : Byte} (hw : commandWellFormed code fb p1 p2 ckH ckL = true)
      (hsend : sendCommand code p1 p2 s = .next t) :
      ∃ r, t.trace = s.trace ++ (encodePattern code fb p1 p2 ckH ckL).map .tx ++ [.result r] ∧
        (r = .sent ∨ r = .issued) := by
    rw [← encodePattern_of_commandWellFormed hw]
    exact ⟨.sent, sendCommand_of_idle hco hsend, .inl rfl⟩
  obtain ⟨fb, p1, p2, ckH, ckL, rfl | rfl | rfl | rfl | rfl | rfl | ⟨timeout, rfl⟩⟩ := hi
  · exact sent hwell h
  · exact sent hwell h
  · exact sent hwell h
  · exact sent hwell h
  · exact sent hwell h
  · exact sent hwell h
  · obtain ⟨-, hw⟩ := Bool.and_eq_true_iff.1 hwell
    have htrace : t.trace =
        s.trace ++ (encodePattern cmdQueryFolderCount fb p1 p2 ckH ckL).map .tx ++ [.result .issued] := by
      rw [requestCommand_of_idle hco h, ← encodePattern_of_commandWellFormed hw]
      rfl
    exact ⟨.issued, htrace, .inr rfl⟩

/-! ## Timeouts (44_coordinator.md R196) -/

/-- `k` ticks with a request outstanding take `k` off the count, not below 0 (44_coordinator.md R183). -/
theorem performAll_ticks {s : State} (hco : s.co = .awaitingReply) (k : Nat) :
    performAll (List.replicate k .tick) s = .next { s with cnt := s.cnt - k } := by
  induction k generalizing s with
  | zero => rfl
  | succ k ih =>
    have htick : exec .tick s = .next { s with cnt := s.cnt - 1 } :=
      execTick_eq_next.2 (by rw [if_pos hco])
    have hcount : s.cnt - 1 - k = s.cnt - (k + 1) := by omega
    rw [List.replicate_succ, performAll, forEach_cons, htick, andThen_next, ← hcount]
    exact ih hco

/-- Settles O39: POLL finds no frame in the latch REQ cleared, and the count `timeout - k`. -/
theorem timeoutComesAtTheTimeoutthTick : Obligations.TimeoutComesAtTheTimeoutthTick := by
  intro s cmd p1 p2 timeout k hco
  obtain ⟨u, hu⟩ : ∃ u, u = emitResult .issued (transmit (encodeFrame cmd p1 p2) (createPending cmd timeout s)) :=
    ⟨_, rfl⟩
  have hreq : exec (.req cmd p1 p2 timeout) s = .next u := requestCommand_eq_next.2 (.inr ⟨hco, hu⟩)
  have hwait : u.co = .awaitingReply := by rw [hu]; rfl
  have hrdy : u.rdy = false := by rw [hu]; rfl
  have hcnt : u.cnt = timeout := by rw [hu]; rfl
  have hticks : performAll (.req cmd p1 p2 timeout :: List.replicate k .tick) s =
      .next { u with cnt := u.cnt - k } := by
    rw [performAll, forEach_cons, hreq]
    exact performAll_ticks hwait k
  rw [hcnt] at hticks
  have hunanswered : ¬(u.rdy = true ∧ u.last.cmd = u.expect) := by simp [hrdy]
  by_cases hearly : k < timeout
  · refine ⟨_, _, hticks, execPoll_eq_next.2 (.inr (.inr (.inr ⟨hwait, hunanswered, ?_, rfl⟩))),
      fun _ => ⟨rfl, hwait⟩, fun hlate => absurd hearly (Nat.not_lt_of_le hlate)⟩
    change timeout - k ≠ 0
    omega
  · refine ⟨_, _, hticks, execPoll_eq_next.2 (.inr (.inr (.inl ⟨hwait, hunanswered, ?_, rfl⟩))),
      fun h => absurd h hearly, fun _ => ⟨rfl, rfl, rfl, rfl⟩⟩
    change timeout - k = 0
    omega

/-! ## A request after a timeout (44_coordinator.md R197) -/

/-- A request for `cmd` is outstanding and no part of a frame is held. -/
structure Requesting (cmd : Byte) (s : State) : Prop where
  ofs    : s.ofs = 0
  co     : s.co = .awaitingReply
  expect : s.expect = cmd

/-- POLL's only answer TimedOut leaves the reconstructor in state Idle (44_coordinator.md R184). -/
theorem execPoll_timedOut {s t : State} (h : execPoll s = .next t) (hco : s.co = .awaitingReply)
    (htrace : t.trace = s.trace ++ [.result .timedOut]) : t.ofs = 0 := by
  obtain ⟨hidle, -⟩ | ⟨-, -, -, rfl⟩ | ⟨-, -, -, rfl⟩ | ⟨-, -, -, rfl⟩ := execPoll_eq_next.1 h
  · rw [hco] at hidle; cases hidle
  · simp at htrace
  · rfl
  · simp at htrace

/-- POLL answers from the frame that the reconstructor has completed since the request. -/
theorem execPoll_replies {s t r : State} {cmd fb p1 p2 : Byte} (hs : Requesting cmd s)
    (hr : r = feedAll (frameBytes (frameOfFields { cmd := cmd, fb := fb, p1 := p1, p2 := p2 })) s)
    (ht : t = t.withRecon r) (hrequest : SameRequest s t) :
    ∃ v, exec .poll t = .next v ∧ v.trace.getLast? = some (.result (.reply p1 p2)) ∧ v.co = .idle ∧ v.rdy = false := by
  obtain ⟨-, -, hrdy, hlast⟩ := feedAll_frameBytes hs.ofs
    (frameOfFields_wellFormed { cmd := cmd, fb := fb, p1 := p1, p2 := p2 })
  rw [← hr] at hrdy hlast
  obtain ⟨hco, hexpect, -⟩ := hrequest
  have htrdy : t.rdy = true := (congrArg State.rdy ht).trans hrdy
  have htlast : t.last = { cmd := cmd, fb := fb, p1 := p1, p2 := p2 } := (congrArg State.last ht).trans hlast
  have hmatch : t.last.cmd = t.expect := by rw [htlast, hexpect, hs.expect]
  refine ⟨_, execPoll_eq_next.2 (.inr (.inl ⟨hco.trans hs.co, htrdy, hmatch, rfl⟩)), ?_, rfl, rfl⟩
  rw [htlast, emitResult_trace, List.getLast?_concat]

/-- Settles O40: the timeout left the reconstructor in state Idle, so the reply is reconstructed from its first byte. -/
theorem requestAfterATimeoutIsAnswered : Obligations.RequestAfterATimeoutIsAnswered := by
  intro s t cmd q1 q2 fb p1 p2 timeout hco hpoll hidle htrace f
  obtain ⟨u, hu⟩ : ∃ u, u = emitResult .issued (transmit (encodeFrame cmd q1 q2) (createPending cmd timeout t)) :=
    ⟨_, rfl⟩
  have hreq : exec (.req cmd q1 q2 timeout) t = .next u := requestCommand_eq_next.2 (.inr ⟨hidle, hu⟩)
  have hofs : t.ofs = 0 := execPoll_timedOut hpoll hco htrace
  have hrequesting : Requesting cmd u := by rw [hu]; exact ⟨hofs, rfl, rfl⟩
  have hcfg : u.cfg = s.cfg := (exec_keeps_cfg hreq).trans (exec_keeps_cfg hpoll)
  refine ⟨u, hreq, hrequesting.co, fun hmode => ?_, fun hmode hinv hslots hread bursts hflatten hbursts => ?_⟩
  · obtain ⟨-, -, -, -, hrequest⟩ := feedAll_frame (frameBytes f) u
    obtain ⟨v, hv, hanswer⟩ := execPoll_replies hrequesting rfl (withRecon_self _).symm hrequest
    refine ⟨v, ?_, hanswer⟩
    rw [performAll_append, performAll_map_rxb_push (hcfg ▸ hmode), andThen_next, performAll, forEach_cons, hv]
    rfl
  · have hquiet : Quiet s t := execPoll_quiet hpoll
    have hquiet' : Quiet t u := requestCommand_quiet hreq
    have hslots' : u.between = [] :=
      ((runIntruder_frame (e := .req cmd q1 q2 timeout) hreq).2.2.2.2.trans
        (runIntruder_frame (e := .poll) hpoll).2.2.2.2).trans hslots
    have hread' : u.wp = u.rc := by
      unfold State.wp
      rw [hquiet'.rem, hquiet.rem, hquiet'.rc, hquiet.rc, hcfg]
      exact hread
    obtain ⟨w, hw, habsorbed⟩ := bursts_absorbed (exec_inv (exec_inv hinv hpoll) hreq) (hcfg ▸ hmode) hslots' hread'
      (hcfg ▸ hbursts)
    obtain ⟨v, hv, hanswer⟩ := execPoll_replies (fb := fb) (p1 := p1) (p2 := p2) hrequesting
      (congrArg (feedAll · u) hflatten) habsorbed.recon habsorbed.request
    refine ⟨v, ?_, hanswer⟩
    rw [performAll_append, hw, andThen_next, performAll, forEach_cons, hv]
    rfl

end Sys2Proof.Machine
end
